-- ==== Sys2Proof/Word.lean ====
section
/-!
DEFINITION. The word types of the engine: a level of a line, the 4-bit command word, the 2-bit channel
code, and the 32-bit data word.
-/

namespace Sys2Proof

/-- A level of a line: low is `false`, high is `true` (00_scope.md R9: "low = 0, high = 1"). -/
abbrev Level := Bool

/-- The 32-bit data word of ACC and RESULT (10_state.md R22, R23). -/
abbrev Word := BitVec 32

/-- A command word `cmd[3:0]` (30_encoding.md R90). -/
abbrev Cmd := BitVec 4

/-- A channel code, the CH field of a command word (30_encoding.md R90, R94). -/
abbrev ChCode := BitVec 2

end Sys2Proof
end

