-- ==== Sys2Proof/Config.lean ====
section
/-!
DEFINITION. What an instance of the engine fixes, and the free values: the variant tag, the channels of the
two variants, the levels the environment presents at the input ports at one instant, and the free inputs.
-/

namespace Sys2Proof

/-- The variant tag of an instance, fixed for its lifetime (00_scope.md R2, 10_state.md R43: port
variant_i, 0 is A and 1 is B). -/
inductive Variant where
  | a
  | b
deriving DecidableEq, Repr

/-- The channels of both variants (00_scope.md R2, 30_encoding.md R94, R100): variant A has `in1`, `in2`,
`temp`, variant B has `in1`, `in2`, `in3`, `in4`. -/
inductive Channel where
  | in1
  | in2
  | temp
  | in3
  | in4
deriving DecidableEq, Repr

/-- The levels at the input ports at one instant (10_state.md R44). `variant_i` is not here: it is a strap
(10_state.md R43). Nothing in the model constrains these levels: the host chooses `rstN`, `cmdValid` and
`cmd` (70_reset_and_hazards.md R262), the converter `dout` (20_memory.md R75), the platform `lineErr`
(60_exceptions.md R211). -/
structure Inputs where
  /-- rst_n: engine reset, active low. -/
  rstN : Bool
  /-- cmd_valid_i: the host presents a command. -/
  cmdValid : Bool
  /-- cmd_i: the presented command word. -/
  cmd : Cmd
  /-- dout_i: the level of line DOUT. -/
  dout : Level
  /-- line_err_i: the line access of this instant fails. -/
  lineErr : Bool
deriving DecidableEq, Repr, Inhabited

/-- The inputs at the instants a state does not list: a free value, no body, so nothing is known of it
(log 2; 20_memory.md R75 and 60_exceptions.md R211 give both draws as unconstrained). -/
opaque Config.freeInputs : Nat → Inputs

end Sys2Proof
end

