-- ==== Sys2Proof/Syntax.lean ====
section
/-!
DEFINITION. The command set: one constructor per row of spec/opcode_table.json.
-/

namespace Sys2Proof

/-- The four commands (30_encoding.md R91). Each carries the CH field of its word: the requested channel of
READ (R94); for the other three it is ignored, and latched into CMD_Q as presented (R93). -/
inductive Instr where
  /-- RESET (44_lifecycle.md R191). -/
  | reset (ch : ChCode)
  /-- CALOFS (44_lifecycle.md R194). -/
  | calofs (ch : ChCode)
  /-- STANDBY (44_lifecycle.md R197). -/
  | standby (ch : ChCode)
  /-- READ (43_read_settling.md R170). -/
  | read (ch : ChCode)
deriving DecidableEq, Repr

end Sys2Proof
end

