-- ==== Sys2Proof/WellFormed.lean ====
section
/-!
DEFINITION. Which commands an instance has: the legality rule.
-/

namespace Sys2Proof

/-- 30_encoding.md R95: a command is illegal exactly when it is READ with channel code 2'b11 in variant A. -/
def Instr.wellFormed (v : Variant) (i : Instr) : Bool :=
  match i with
  | .reset _ => true
  | .calofs _ => true
  | .standby _ => true
  | .read ch => !(v == .a && ch == 3#2)

end Sys2Proof
end

