-- ==== Sys2Proof/Decode.lean ====
section
/-!
DEFINITION. The command decoder, total on every word and every byte, the encoder, and the assembler's table.
-/

namespace Sys2Proof

/-- Why a word is not decoded. -/
inductive DecodeError where
  /-- READ with channel code 2'b11 in variant A, word 4'hF (30_encoding.md R95, R98). -/
  | readChannel3InVariantA
  /-- A byte with a bit set above the four bits of a command word (30_encoding.md R99: "Every command is 4
  bits"; log 12). -/
  | notACommandWord
deriving DecidableEq, Repr

/-- The OP field, `cmd[3:2]` (30_encoding.md R90). -/
def opField (w : Cmd) : BitVec 2 := w.extractLsb' 2 2

/-- The CH field, `cmd[1:0]` (30_encoding.md R90). -/
def chField (w : Cmd) : ChCode := w.extractLsb' 0 2

/-- The command a word names, by its OP field alone (30_encoding.md R91: "Every value of OP is assigned"). -/
def commandOf (w : Cmd) : Instr :=
  match opField w with
  | 0#2 => .reset (chField w)
  | 1#2 => .calofs (chField w)
  | 2#2 => .standby (chField w)
  | 3#2 => .read (chField w)

/-- The decoder of 30_encoding.md R97: the illegal word of variant A is refused, every other word names its
command. -/
def decode (v : Variant) (w : Cmd) : Except DecodeError Instr :=
  if (commandOf w).wellFormed v then .ok (commandOf w) else .error .readChannel3InVariantA

/-- A command word held in the low four bits of a byte (log 12). -/
def decodeByte (v : Variant) (b : BitVec 8) : Except DecodeError Instr :=
  if b.extractLsb' 4 4 = 0#4 then decode v (b.extractLsb' 0 4) else .error .notACommandWord

/-- The opcode of a command (30_encoding.md R91). -/
def Instr.opcode (i : Instr) : BitVec 2 :=
  match i with
  | .reset _ => 0#2
  | .calofs _ => 1#2
  | .standby _ => 2#2
  | .read _ => 3#2

/-- The CH field of a command. -/
def Instr.channelField (i : Instr) : ChCode :=
  match i with
  | .reset ch => ch
  | .calofs ch => ch
  | .standby ch => ch
  | .read ch => ch

/-- The encoder: the opcode in bits 3:2, the channel field in bits 1:0 (30_encoding.md R90). -/
def encode (i : Instr) : Cmd := i.opcode ++ i.channelField

/-- The instruction the decoder reads from a row's word as spec/opcode_table.json numbers its bits. The word
stands in a byte; the decoder is that of variant B, the variant with no illegal word (log 12). -/
def decodeTableWord (nbits w : Nat) : Option Instr :=
  let bits := w % 2 ^ nbits
  if bits < 256 then
    match decodeByte .b (BitVec.ofNat 8 bits) with
    | .ok i => some i
    | .error _ => none
  else none

/-- The code of a channel in a variant, none where the variant lacks the channel (30_encoding.md R94). -/
def Channel.code (v : Variant) (c : Channel) : Option ChCode :=
  match v, c with
  | _, .in1 => some 0#2
  | _, .in2 => some 1#2
  | .a, .temp => some 2#2
  | .a, .in3 => none
  | .a, .in4 => none
  | .b, .temp => none
  | .b, .in3 => some 2#2
  | .b, .in4 => some 3#2

/-- The channel a code names in a variant: the table of 30_encoding.md R94. -/
def channelOf (v : Variant) (ch : ChCode) : Option Channel :=
  match ch, v with
  | 0#2, _ => some .in1
  | 1#2, _ => some .in2
  | 2#2, .a => some .temp
  | 2#2, .b => some .in3
  | 3#2, .a => none
  | 3#2, .b => some .in4

/-- The assembler's name of a channel (30_encoding.md R100). -/
def Channel.name (c : Channel) : String :=
  match c with
  | .in1 => "IN1"
  | .in2 => "IN2"
  | .temp => "TEMP"
  | .in3 => "IN3"
  | .in4 => "IN4"

/-- The lines the assembler accepts for READ in a variant, with their words (30_encoding.md R100). -/
def readLines (v : Variant) : List (String × Cmd) :=
  [Channel.in1, .in2, .temp, .in3, .in4].filterMap fun c =>
    (c.code v).map fun ch => ("READ " ++ c.name, encode (.read ch))

/-- Every line the assembler accepts in a variant, with its word; the CH field of the three commands that
ignore it is written 2'b00 (30_encoding.md R93, R100; log 20). -/
def assemblerLines (v : Variant) : List (String × Cmd) :=
  [("RESET", encode (.reset 0#2)), ("CALOFS", encode (.calofs 0#2)), ("STANDBY", encode (.standby 0#2))] ++ readLines v

/-- What a line says: what stands before the comment, which starts with `;`, and before the spaces in front of it
(30_encoding.md R100: "A comment starts with `;`"; log 20). -/
def lineText (line : String) : List Char :=
  ((line.toList.takeWhile fun c => c != ';').reverse.dropWhile fun c => c == ' ').reverse

/-- The word of one line of a command sequence, none where the line is not accepted (30_encoding.md R100). -/
def assemble (v : Variant) (line : String) : Option Cmd :=
  ((assemblerLines v).find? fun p => p.1.toList == lineText line).map Prod.snd

/-- The words of a command sequence, one command a line, lines with no text skipped; none where a line is not
accepted (30_encoding.md R100; log 20). -/
def assembleSequence (v : Variant) (lines : List String) : Option (List Cmd) :=
  (lines.filter fun line => lineText line != []).mapM (assemble v)

end Sys2Proof
end

