-- ==== Sys2Proof/Machine/State.lean ====
section
/-!
DEFINITION. The state of the engine, the reasons a step can stop, and the state after reset.
-/

namespace Sys2Proof.Machine

/-- The five lines (00_scope.md R12, 20_memory.md R61). -/
inductive Line where
  | dout
  | sclk
  | pdwn
  | sel0
  | sel1
deriving DecidableEq, Repr

/-- The lines the engine drives (20_memory.md R61). DOUT is not one of them: it cannot be driven
(40_line_controller.md R111). -/
inductive OutLine where
  | sclk
  | pdwn
  | sel0
  | sel1
deriving DecidableEq, Repr

/-- The lines whose last driven level can be queried (10_state.md R40). -/
inductive SelLine where
  | sel0
  | sel1
deriving DecidableEq, Repr

/-- The kinds of line access (10_state.md R42). -/
inductive AccessKind where
  | drv
  | smp
  | qry
deriving DecidableEq, Repr

/-- A line event of a trace (00_scope.md R11). -/
inductive Event where
  /-- `SCLK=1` and the like: a line was driven. -/
  | drv (l : OutLine) (v : Level)
  /-- `DOUT?b`: SHIFTIN sampled the data line. -/
  | smp (b : Level)
  /-- `SEL0?b`, `SEL1?b`: a select line's last driven level was queried. -/
  | qry (l : SelLine) (b : Level)
  /-- `D(n)`: at least `n` nanoseconds passed. -/
  | dly (n : Nat)
  /-- `W`: a WAITLOW completed. -/
  | waited
  /-- `!l.k`: the access of kind `k` to line `l` failed. -/
  | lineFault (l : Line) (k : AccessKind)
deriving DecidableEq, Repr

/-- The sequencer state (10_state.md R25). -/
inductive Seq where
  | idle
  | run
  | faulted
deriving DecidableEq, Repr

/-- The reasons the model stops with a fault. -/
inductive Fault where
  /-- Raised by every command's meaning when SEQ = RUN and UPC lies past the end index of its micro-program,
  a position the spec says cannot be formed (10_state.md R26, 43_read_settling.md R183). A stuck state that no
  run from reset reaches. Safe: the model stops where the spec gives nothing (log 10). -/
  | upcPastEnd
deriving DecidableEq, Repr

/-- The reasons the model refuses. -/
inductive Refusal where
  /-- Raised by an arm of `exec` whose instruction has no meaning yet; no arm does. Safe. -/
  | notModelled (mnemonic : String)
  /-- Raised by the host's read of result_o while RVALID = 0 (10_state.md R33: "a model gives a read of it no
  value"; U6). No step raises it. Safe (log 9). -/
  | resultNotValid
deriving DecidableEq, Repr

/-- The state of the machine. The fields from `sclkQ` to `faultCause` are the engine's, "The complete state of
the engine" of 10_state.md R20. `variant` is the strap (10_state.md R43). `env`, `draws` and `trace` are the
model's own (logs 2, 3 and 5). -/
structure State where
  /-- VARIANT, the strap; no step writes it (10_state.md R43; log 4). -/
  variant : Variant
  /-- SCLK_Q (10_state.md R39). -/
  sclkQ : Level
  /-- PDWN_Q (10_state.md R39). -/
  pdwnQ : Level
  /-- SEL0_Q (10_state.md R39, R40). -/
  sel0Q : Level
  /-- SEL1_Q (10_state.md R39, R40). -/
  sel1Q : Level
  /-- ACC (10_state.md R22). -/
  acc : Word
  /-- RESULT (10_state.md R23). -/
  result : Word
  /-- CMD_Q (10_state.md R29). -/
  cmdQ : Cmd
  /-- SEQ (10_state.md R25). -/
  seq : Seq
  /-- UPC (10_state.md R26). -/
  upc : Nat
  /-- PREV_CH (10_state.md R38). -/
  prevCh : ChCode
  /-- BUSY (10_state.md R31). -/
  busy : Bool
  /-- DONE (10_state.md R32). -/
  done : Bool
  /-- RVALID (10_state.md R33). -/
  rvalid : Bool
  /-- REJ (10_state.md R34). -/
  rej : Bool
  /-- FAULT (10_state.md R35). -/
  fault : Bool
  /-- CHG (10_state.md R36). -/
  chg : Bool
  /-- DISC (10_state.md R37). -/
  disc : Bool
  /-- FAULT_CAUSE (10_state.md R42). -/
  faultCause : BitVec 5
  /-- The levels at the input ports at this instant and the coming ones (log 2). -/
  env : List Inputs
  /-- How many instants past the end of `env` have been played with free inputs (log 2). -/
  draws : Nat
  /-- The line events so far, oldest first (00_scope.md R11; log 5). -/
  trace : List Event
deriving DecidableEq, Repr

/-- The machine right after engine reset: the table of 10_state.md R50. `variant` is a strap, for which
reset gives no value; `env`, `draws` and `trace` are the model's own (logs 3 and 4). -/
def State.reset : State where
  variant := .b
  sclkQ := false
  pdwnQ := false
  sel0Q := false
  sel1Q := false
  acc := 0#32
  result := 0#32
  cmdQ := 0#4
  seq := .idle
  upc := 0
  prevCh := 0#2
  busy := false
  done := false
  rvalid := false
  rej := false
  fault := false
  chg := false
  disc := false
  faultCause := 0#5
  env := []
  draws := 0
  trace := []

end Sys2Proof.Machine
end

