-- ==== Sys2Proof/Machine/Flags.lean ====
section
/-!
DEFINITION. The status flags: the status vector and every event that sets or clears flags.
-/

namespace Sys2Proof.Machine

/-- The status vector `STATUS[6:0]`, from bit 6 down: DISC, CHG, FAULT, REJ, RVALID, DONE, BUSY
(10_state.md R30). -/
def State.status (s : State) : BitVec 7 :=
  BitVec.ofBool s.disc ++ BitVec.ofBool s.chg ++ BitVec.ofBool s.fault ++ BitVec.ofBool s.rej ++
    BitVec.ofBool s.rvalid ++ BitVec.ofBool s.done ++ BitVec.ofBool s.busy

/-- Acceptance: BUSY set; DONE, RVALID, REJ, CHG, DISC cleared (30_encoding.md R92). -/
def State.flagsOnAccept (s : State) : State :=
  { s with busy := true, done := false, rvalid := false, rej := false, chg := false, disc := false }

/-- Rejection: REJ set; DONE, RVALID, CHG, DISC cleared (60_exceptions.md R213, 10_state.md R34). -/
def State.flagsOnReject (s : State) : State :=
  { s with rej := true, done := false, rvalid := false, chg := false, disc := false }

/-- Completion: DONE set, BUSY cleared (10_state.md R27, R32). -/
def State.flagsOnComplete (s : State) : State :=
  { s with done := true, busy := false }

/-- Line fault: FAULT set, BUSY cleared (60_exceptions.md R212, 10_state.md R35). -/
def State.flagsOnLineFault (s : State) : State :=
  { s with fault := true, busy := false }

/-- CMP: CHG and DISC (43_read_settling.md R173, 10_state.md R36, R37). -/
def State.flagsOnCompare (changed discard : Bool) (s : State) : State :=
  { s with chg := changed, disc := changed && discard }

end Sys2Proof.Machine
end

