-- ==== Sys2Proof/Machine/MicroOp.lean ====
section
/-!
DEFINITION. The micro-operations: what stands at a position of a command's micro-program.
-/

namespace Sys2Proof.Machine

/-- The micro-operations of the sequencer (40_line_controller.md R110, R116). They have no encoding: the host
cannot issue them. -/
inductive MicroOp where
  /-- DRV(l, v) (40_line_controller.md R111). -/
  | drv (l : OutLine) (v : Level)
  /-- DRV(SCLK, 0) with ACC <- 0, offset 0 of ACQUIRE (41_acquisition.md R132). -/
  | startAcquire
  /-- WAITLOW() (40_line_controller.md R115). -/
  | waitLow
  /-- SHIFTIN (41_acquisition.md R134). -/
  | shiftIn
  /-- QRY(l) (40_line_controller.md R113). -/
  | qry (l : SelLine)
  /-- DLY(n) (40_line_controller.md R114). -/
  | dly (n : Nat)
  /-- CMP with the requested channel (43_read_settling.md R173). -/
  | cmp (ch : ChCode)
  /-- DLY(T_SETTLE) of READ with its conditional skip (43_read_settling.md R175). -/
  | settle
  /-- The completion step of RESET, CALOFS and STANDBY (10_state.md R27). -/
  | finish
  /-- The completion step of READ (43_read_settling.md R176). -/
  | finishRead
deriving DecidableEq, Repr

end Sys2Proof.Machine
end

