-- ==== Sys2Proof/Machine/Operands.lean ====
section
/-!
DEFINITION. What the commands compute: the channel select mapping and its inverse, the discard criterion, one
step of the shift-in datapath, and the sign-extension unit.
-/

namespace Sys2Proof.Machine

/-- The level of SEL0 for a channel code (42_channel_select.md R152: `ch[0]`). -/
def sel0Level (ch : ChCode) : Level := ch.getLsbD 0

/-- The level of SEL1 for a channel code (42_channel_select.md R152: `ch[1]`). -/
def sel1Level (ch : ChCode) : Level := ch.getLsbD 1

/-- The inverse mapping `decode(VARIANT, q1, q0)` of 42_channel_select.md R153: variant B gives the code
`q1 q0`, variant A gives `q1 (q0 & ~q1)`, which reads the pair (high, high), unreachable there, as TEMP (log 8). -/
def channelOfLevels (v : Variant) (q1 q0 : Level) : ChCode :=
  match v with
  | .a => BitVec.ofBool q1 ++ BitVec.ofBool (q0 && !q1)
  | .b => BitVec.ofBool q1 ++ BitVec.ofBool q0

/-- Whether a channel code names the temperature channel, which only variant A has (30_encoding.md R94). -/
def isTemp (v : Variant) (ch : ChCode) : Bool := channelOf v ch == some .temp

/-- The discard criterion `crossing(VARIANT, old, new)` of 43_read_settling.md R174: exactly one of the two is the
temperature channel. Never true in variant B, which has no temperature channel. -/
def crossing (v : Variant) (old new : ChCode) : Bool := isTemp v old != isTemp v new

/-- A level widened to 32 bits with zeros, `zext_32(s)` (00_scope.md R9). -/
def zext32 (b : Level) : Word := if b then 1#32 else 0#32

/-- One step of the shift-in datapath, `((ACC << 1) | zext_32(s)) mod 2^32` (41_acquisition.md R134). -/
def shiftInto (acc : Word) (b : Level) : Word := (acc <<< 1) ||| zext32 b

/-- The value of SEXT24, an integer (41_acquisition.md R137): mask to 24 bits, subtract 2^24 if bit 23 is set. -/
def sext24 (v : Word) : Int :=
  let m := v &&& 0x00FFFFFF#32
  if m.getLsbD 23 then (m.toNat : Int) - 2 ^ 24 else (m.toNat : Int)

/-- SEXT24 as a signed 32-bit word (41_acquisition.md R137). -/
def sext24to32 (v : Word) : Word := BitVec.ofInt 32 (sext24 v)

end Sys2Proof.Machine
end

