-- ==== Sys2Proof/Machine/Timing.lean ====
section
/-!
DEFINITION. The timing constants of the protocol and the arithmetic of the delay timer. No step reads a clock:
a delay is a trace event that carries its constant (40_line_controller.md R114; log 6).
-/

namespace Sys2Proof.Machine

/-! The constants of 00_scope.md R6, in nanoseconds. -/

/-- T_SMP_SETUP: after clock high, before the data sample. -/
def tSmpSetup : Nat := 50
/-- T_SMP_HOLD: after the data sample, before clock low. -/
def tSmpHold : Nat := 50
/-- T_BIT_LOW: after clock low, each of 24 bits. -/
def tBitLow : Nat := 100
/-- T_P25_HIGH: 25th pulse, clock high time. -/
def tP25High : Nat := 100
/-- T_P25_LOW: 25th pulse, clock low time. -/
def tP25Low : Nat := 100
/-- T_SETTLE: after the select lines change. -/
def tSettle : Nat := 50000
/-- T_PWR_STABLE: RESET, after power-down low. -/
def tPwrStable : Nat := 50000
/-- T_PDWN_HIGH: RESET, first power-down high. -/
def tPdwnHigh : Nat := 26000
/-- T_PDWN_LOW: RESET, second power-down low. -/
def tPdwnLow : Nat := 26000
/-- T_CAL_HIGH: CALOFS, 26th pulse, clock high time. -/
def tCalHigh : Nat := 100

/-- What the delay timer is loaded with for a delay of `n` nanoseconds: `ceil(n / T_CLK_NS)`
(60_exceptions.md R232). T_CLK_NS is an open positive parameter (00_scope.md R7), given here as the fraction
`num / den` of nanoseconds. -/
def timerLoad (num den n : Nat) : Nat := (n * den + num - 1) / num

/-- The least width of the delay timer: `ceil(log2(ceil(50 000 / T_CLK_NS) + 1))` bits (60_exceptions.md R232),
50 000 being the largest delay. -/
def timerWidth (num den : Nat) : Nat := Nat.clog 2 (timerLoad num den tSettle + 1)

end Sys2Proof.Machine
end

