-- ==== Sys2Proof/Machine/Ops.lean ====
section
/-!
DEFINITION. The named operations every command is built from: the input ports, the line registers, the one
exception and the return from it, the acceptance and rejection of a command, the micro-operations of the line
controller, and the sequencer.
-/

namespace Sys2Proof.Machine

/-! ## Input ports -/

/-- The levels at the input ports at this instant: the next of `env`, free where `env` has ended (log 2). -/
def State.now (s : State) : Inputs :=
  match s.env with
  | i :: _ => i
  | [] => Config.freeInputs s.draws

/-- The instant passes: its inputs are used up, or one more free draw is (log 2). -/
def State.advance (s : State) : State :=
  { s with env := s.env.tail, draws := if s.env.isEmpty then s.draws + 1 else s.draws }

/-! ## Lines -/

/-- A driven line among the five. -/
def OutLine.line (l : OutLine) : Line :=
  match l with
  | .sclk => .sclk
  | .pdwn => .pdwn
  | .sel0 => .sel0
  | .sel1 => .sel1

/-- A select line among the five. -/
def SelLine.line (l : SelLine) : Line :=
  match l with
  | .sel0 => .sel0
  | .sel1 => .sel1

/-- The line id (20_memory.md R61, 10_state.md R42). -/
def Line.id (l : Line) : BitVec 3 :=
  match l with
  | .dout => 0#3
  | .sclk => 1#3
  | .pdwn => 2#3
  | .sel0 => 3#3
  | .sel1 => 4#3

/-- The code of a kind of access (10_state.md R42). -/
def AccessKind.code (k : AccessKind) : BitVec 2 :=
  match k with
  | .drv => 0#2
  | .smp => 1#2
  | .qry => 2#2

/-- FAULT_CAUSE of a failed access, kind in bits 4:3, line id in bits 2:0 (60_exceptions.md R214). -/
def causeOf (l : Line) (k : AccessKind) : BitVec 5 := k.code ++ l.id

/-- The line register of a driven line (10_state.md R39). -/
def State.lineReg (s : State) (l : OutLine) : Level :=
  match l with
  | .sclk => s.sclkQ
  | .pdwn => s.pdwnQ
  | .sel0 => s.sel0Q
  | .sel1 => s.sel1Q

/-- Write the line register of a driven line (10_state.md R39). -/
def State.setLineReg (s : State) (l : OutLine) (v : Level) : State :=
  match l with
  | .sclk => { s with sclkQ := v }
  | .pdwn => { s with pdwnQ := v }
  | .sel0 => { s with sel0Q := v }
  | .sel1 => { s with sel1Q := v }

/-- The last driven level of a select line: the register, not the pad (10_state.md R40). -/
def State.lastDriven (s : State) (l : SelLine) : Level :=
  match l with
  | .sel0 => s.sel0Q
  | .sel1 => s.sel1Q

/-- A line event joins the trace (00_scope.md R11: "in time order"). -/
def State.emit (s : State) (e : Event) : State := { s with trace := s.trace ++ [e] }

/-- The position moves on by one (10_state.md R27). -/
def State.nextUpc (s : State) : State := { s with upc := s.upc + 1 }

/-! ## The exception and the return from it -/

/-- Taking the one exception, `LineFault(l, k)` (60_exceptions.md R212): the failed micro-operation has no
effect, FAULT and FAULT_CAUSE are written, BUSY is cleared, the sequencer halts; UPC, CMD_Q, DONE, RVALID,
RESULT and the line registers keep their values. -/
def State.takeLineFault (s : State) (l : Line) (k : AccessKind) : State :=
  { s.flagsOnLineFault.emit (.lineFault l k) with faultCause := causeOf l k, seq := .faulted }

/-- Engine reset (70_reset_and_hazards.md R240), the only return from the fault state (60_exceptions.md R219):
every piece of the engine's state gets its value of 10_state.md R50. The strap and what is not the engine's
(its inputs, the record of the line events) stay (logs 3 and 5). -/
def State.engineReset (s : State) : State :=
  { State.reset with variant := s.variant, env := s.env, draws := s.draws, trace := s.trace }

/-! ## The command port -/

/-- Acceptance of a legal word (30_encoding.md R92): latched, its micro-program starts at index 0. -/
def State.accept (s : State) (w : Cmd) : State :=
  { s.flagsOnAccept with cmdQ := w, seq := .run, upc := 0 }

/-- Rejection of an illegal word (60_exceptions.md R213): flags only. -/
def State.reject (s : State) : State := s.flagsOnReject

/-- A command presented to an idle engine (30_encoding.md R92, 60_exceptions.md R213). -/
def State.present (s : State) (i : Instr) : State :=
  if i.wellFormed s.variant then s.accept (encode i) else s.reject

/-! ## The micro-operations -/

/-- DRV(l, v) (40_line_controller.md R111). -/
def drive (l : OutLine) (v : Level) (s : State) : State :=
  if s.now.lineErr then s.takeLineFault l.line .drv
  else ((s.setLineReg l v).emit (.drv l v)).nextUpc

/-- A sample of DOUT (40_line_controller.md R112): none where the access fails. -/
def State.sample (s : State) : Option Level :=
  if s.now.lineErr then none else some s.now.dout

/-- QRY(l) (40_line_controller.md R113). The level it delivers is the register's, which CMP reads again
(log 14); the event carries it. -/
def query (l : SelLine) (s : State) : State :=
  if s.now.lineErr then s.takeLineFault l.line .qry
  else (s.emit (.qry l (s.lastDriven l))).nextUpc

/-- DLY(n) (40_line_controller.md R114): consults no line, writes no state. -/
def delay (n : Nat) (s : State) : State := (s.emit (.dly n)).nextUpc

/-- One poll of WAITLOW (40_line_controller.md R115): a failed sample faults, a low one completes it, a high one
leaves everything as it is. -/
def waitLow (s : State) : State :=
  match s.sample with
  | none => s.takeLineFault .dout .smp
  | some false => (s.emit .waited).nextUpc
  | some true => s

/-- Offset 0 of ACQUIRE (41_acquisition.md R132): the clock is driven low and ACC cleared, both or neither. -/
def startAcquire (s : State) : State :=
  if s.now.lineErr then s.takeLineFault .sclk .drv
  else { ((s.setLineReg .sclk false).emit (.drv .sclk false)).nextUpc with acc := 0#32 }

/-- SHIFTIN (41_acquisition.md R134). -/
def shiftIn (s : State) : State :=
  match s.sample with
  | none => s.takeLineFault .dout .smp
  | some b => { (s.emit (.smp b)).nextUpc with acc := shiftInto s.acc b }

/-- The first micro-operation of READ's last acquisition, the target of both skips (43_read_settling.md R171). -/
def lastAcquire : Nat := 606

/-- The channel the select-line registers denote (10_state.md R41, 42_channel_select.md R153). -/
def State.selectedChannel (s : State) : ChCode := channelOfLevels s.variant s.sel1Q s.sel0Q

/-- CMP (43_read_settling.md R173). -/
def compareChannel (ch : ChCode) (s : State) : State :=
  let cur := s.selectedChannel
  let changed := cur != ch
  { s.flagsOnCompare changed (crossing s.variant cur ch) with
    prevCh := cur
    upc := if changed then 3 else lastAcquire }

/-- The settling delay of READ, index 5 (43_read_settling.md R175): `DLY(T_SETTLE)`, then the discarded
acquisitions if DISC = 1, else the last one. -/
def settle (s : State) : State :=
  { s.emit (.dly tSettle) with upc := if s.disc then 6 else lastAcquire }

/-- The completion step of a command (10_state.md R27): UPC keeps the end index. -/
def complete (s : State) : State := { s.flagsOnComplete with seq := .idle }

/-- The completion step of READ (43_read_settling.md R176). -/
def completeRead (s : State) : State :=
  { complete s with result := sext24to32 s.acc, rvalid := true }

/-! ## The sequencer -/

/-- The effect of one micro-operation (40_line_controller.md R110, R116). -/
def microStep (op : MicroOp) (s : State) : State :=
  match op with
  | .drv l v => drive l v s
  | .startAcquire => startAcquire s
  | .waitLow => waitLow s
  | .shiftIn => shiftIn s
  | .qry l => query l s
  | .dly n => delay n s
  | .cmp ch => compareChannel ch s
  | .settle => settle s
  | .finish => complete s
  | .finishRead => completeRead s

/-- One step of the engine on behalf of a command: presented where the engine is idle, its next micro-operation
where it runs, nothing where the engine has halted (10_state.md R25, R26, 60_exceptions.md R219). A position
the micro-program does not have stops the model (log 10). -/
def commandStep (i : Instr) (program : Nat → Option MicroOp) (s : State) : Host.Outcome State Fault Refusal :=
  match s.seq with
  | .idle => .next (s.present i)
  | .run =>
    match program s.upc with
    | some op => .next (microStep op s)
    | none => .fault .upcPastEnd
  | .faulted => .next s

end Sys2Proof.Machine
end

