-- ==== Sys2Proof/Machine/Acquire.lean ====
section
/-!
DEFINITION. ACQUIRE, the acquisition routine that READ and CALOFS play inline.
-/

namespace Sys2Proof.Machine

/-- The micro-operations of one data pulse, offsets 2 + 6k to 7 + 6k of ACQUIRE, by their place in the pulse
(41_acquisition.md R131, R133). -/
def pulseOp (place : Nat) : MicroOp :=
  match place with
  | 0 => .drv .sclk true
  | 1 => .dly tSmpSetup
  | 2 => .shiftIn
  | 3 => .dly tSmpHold
  | 4 => .drv .sclk false
  | _ => .dly tBitLow

/-- The micro-operation at an offset below 150 of ACQUIRE: clock low, wait for data-ready, 24 data pulses, the
25th pulse (41_acquisition.md R131). -/
def acquireOp (offset : Nat) : MicroOp :=
  if offset = 0 then .startAcquire
  else if offset = 1 then .waitLow
  else if offset < 146 then pulseOp ((offset - 2) % 6)
  else if offset = 146 then .drv .sclk true
  else if offset = 147 then .dly tP25High
  else if offset = 148 then .drv .sclk false
  else .dly tP25Low

end Sys2Proof.Machine
end

