-- ==== Sys2Proof/Machine/Lifecycle.lean ====
section
/-!
DEFINITION. The lifecycle commands RESET, CALOFS and STANDBY.
-/

namespace Sys2Proof.Machine

/-- The micro-program of RESET (44_lifecycle.md R191). -/
def resetProgram (upc : Nat) : Option MicroOp :=
  match upc with
  | 0 => some (.drv .pdwn false)
  | 1 => some (.dly tPwrStable)
  | 2 => some (.drv .pdwn true)
  | 3 => some (.dly tPdwnHigh)
  | 4 => some (.drv .pdwn false)
  | 5 => some (.dly tPdwnLow)
  | 6 => some (.drv .pdwn true)
  | 7 => some .finish
  | _ => none

/-- The micro-program of CALOFS (44_lifecycle.md R194): one acquisition, the 26th pulse, the wait for the end of
calibration. -/
def calofsProgram (upc : Nat) : Option MicroOp :=
  if upc < 150 then some (acquireOp upc)
  else if upc = 150 then some (.drv .sclk true)
  else if upc = 151 then some (.dly tCalHigh)
  else if upc = 152 then some (.drv .sclk false)
  else if upc = 153 then some .waitLow
  else if upc = 154 then some .finish
  else none

/-- The micro-program of STANDBY (44_lifecycle.md R197). -/
def standbyProgram (upc : Nat) : Option MicroOp :=
  match upc with
  | 0 => some (.drv .sclk false)
  | 1 => some .waitLow
  | 2 => some (.drv .sclk true)
  | 3 => some .finish
  | _ => none

/-- RESET (44_lifecycle.md R191). -/
def execReset (ch : ChCode) (s : State) : Host.Outcome State Fault Refusal :=
  commandStep (.reset ch) resetProgram s

/-- CALOFS (44_lifecycle.md R194). -/
def execCalofs (ch : ChCode) (s : State) : Host.Outcome State Fault Refusal :=
  commandStep (.calofs ch) calofsProgram s

/-- STANDBY (44_lifecycle.md R197). -/
def execStandby (ch : ChCode) (s : State) : Host.Outcome State Fault Refusal :=
  commandStep (.standby ch) standbyProgram s

end Sys2Proof.Machine
end

