-- ==== Sys2Proof/Machine/Read.lean ====
section
/-!
DEFINITION. The READ command.
-/

namespace Sys2Proof.Machine

/-- The micro-program of READ (43_read_settling.md R171): the channel-select state machine, the settling delay,
four acquisitions to discard at 6, 156, 306 and 456, the returned one at 606, the completion step. -/
def readProgram (ch : ChCode) (upc : Nat) : Option MicroOp :=
  if upc = 0 then some (.qry .sel0)
  else if upc = 1 then some (.qry .sel1)
  else if upc = 2 then some (.cmp ch)
  else if upc = 3 then some (.drv .sel0 (sel0Level ch))
  else if upc = 4 then some (.drv .sel1 (sel1Level ch))
  else if upc = 5 then some .settle
  else if upc < 756 then some (acquireOp ((upc - 6) % 150))
  else if upc = 756 then some .finishRead
  else none

/-- READ ch (43_read_settling.md R170, R171). -/
def execRead (ch : ChCode) (s : State) : Host.Outcome State Fault Refusal :=
  commandStep (.read ch) (readProgram ch) s

end Sys2Proof.Machine
end

