-- ==== Sys2Proof/Machine/Dispatch.lean ====
section
/-! DEFINITION. One arm per command: its meaning. -/

namespace Sys2Proof.Machine

/-- One step of the engine on behalf of a command. -/
def exec (i : Instr) (s : State) : Host.Outcome State Fault Refusal :=
  match i with
  | .reset ch => Sys2Proof.Machine.execReset ch s
  | .calofs ch => Sys2Proof.Machine.execCalofs ch s
  | .standby ch => Sys2Proof.Machine.execStandby ch s
  | .read ch => Sys2Proof.Machine.execRead ch s

end Sys2Proof.Machine
end

