-- ==== Sys2Proof/Machine/Fetch.lean ====
section
/-!
DEFINITION. Which command a step plays: the word at the command port of an idle engine, the latched word of a
running one.
-/

namespace Sys2Proof.Machine

/-- What a step does with the engine. -/
inductive Move where
  /-- rst_n = 0. -/
  | engineReset
  /-- An illegal word at the port of an idle engine. -/
  | reject
  /-- Nothing: no word at the port of an idle engine, or a halted engine. -/
  | hold
  /-- A step of a command. -/
  | command (i : Instr)
deriving DecidableEq, Repr

/-- Engine reset overrides everything (60_exceptions.md R218, 70_reset_and_hazards.md R240). An idle engine looks
at the command port, a running one plays CMD_Q and looks at no port, a halted one does nothing
(30_encoding.md R92, 20_memory.md R73, 60_exceptions.md R219). -/
def State.move (s : State) : Move :=
  if s.now.rstN then
    match s.seq with
    | .idle =>
      if s.now.cmdValid then
        match decode s.variant s.now.cmd with
        | .ok i => .command i
        | .error _ => .reject
      else .hold
    | .run => .command (commandOf s.cmdQ)
    | .faulted => .hold
  else .engineReset

/-- An outcome after which the instant has passed. -/
def afterInstant (o : Host.Outcome State Fault Refusal) : Host.Outcome State Fault Refusal :=
  match o with
  | .next t => .next t.advance
  | .fault r => .fault r
  | .refused r => .refused r

/-- The inputs of this instant with a word presented under released engine reset. -/
def State.presenting (s : State) (w : Cmd) : Inputs :=
  { s.now with rstN := true, cmdValid := true, cmd := w }

/-- An idle engine at whose port a word stands at this instant: what presenting a command takes
(30_encoding.md R92; log 11). -/
def State.withPresented (s : State) (w : Cmd) : State :=
  { s with
    seq := .idle
    busy := false
    fault := false
    env := s.presenting w :: s.env.tail }

end Sys2Proof.Machine
end

