-- ==== Sys2Proof/Machine/Step.lean ====
section
/-! DEFINITION. One step of the machine, and the placing of an instruction word. -/

namespace Sys2Proof.Machine

/-- One step: one micro-operation, one acceptance or rejection, one poll of a wait, one instant of holding, or
engine reset (10_state.md R27, 30_encoding.md R92, 70_reset_and_hazards.md R240; log 1). -/
def step (s : State) : Host.Outcome State Fault Refusal :=
  match s.move with
  | .engineReset => afterInstant (.next s.engineReset)
  | .reject => afterInstant (.next s.reject)
  | .hold => afterInstant (.next s)
  | .command i => afterInstant (exec i s)

/-- The state with a word at the command port, so that the next step takes it (log 11). -/
def State.withFetchWord (s : State) (nbits w : Nat) : State :=
  s.withPresented (BitVec.ofNat 4 (w % 2 ^ nbits))

end Sys2Proof.Machine
end

