-- ==== Sys2Proof/Machine/Ports.lean ====
section
/-!
DEFINITION. What the host and the converter see of the engine: its output ports and the host's reads.
-/

namespace Sys2Proof.Machine

/-- The output ports (10_state.md R44), in the table's order. -/
structure Outputs where
  /-- cmd_ready_o. -/
  cmdReady : Bool
  /-- status_o. -/
  status : BitVec 7
  /-- result_o; none while RVALID = 0, where "the value at result_o has no meaning" (10_state.md R33; log 9). -/
  result : Option Word
  /-- prev_ch_o. -/
  prevCh : ChCode
  /-- fault_cause_o. -/
  faultCause : BitVec 5
  /-- sclk_o. -/
  sclk : Level
  /-- pdwn_o. -/
  pdwn : Level
  /-- sel0_o. -/
  sel0 : Level
  /-- sel1_o. -/
  sel1 : Level
deriving DecidableEq, Repr

/-- cmd_ready_o: 1 exactly when SEQ = IDLE and rst_n = 1 (10_state.md R44, 30_encoding.md R92). -/
def State.cmdReady (s : State) : Bool := s.seq == .idle && s.now.rstN

/-- The levels at the output ports at this instant. While rst_n = 0 every register shows its reset value
(70_reset_and_hazards.md R240: "While it is asserted"). -/
def State.outputs (s : State) : Outputs :=
  let r := if s.now.rstN then s else s.engineReset
  { cmdReady := s.cmdReady
    status := r.status
    result := if r.rvalid then some r.result else none
    prevCh := r.prevCh
    faultCause := r.faultCause
    sclk := r.sclkQ
    pdwn := r.pdwnQ
    sel0 := r.sel0Q
    sel1 := r.sel1Q }

/-- The host's read of result_o (70_reset_and_hazards.md R262): the sample while RVALID = 1, refused otherwise
(log 9). -/
def State.hostReadResult (s : State) : Host.Outcome Word Fault Refusal :=
  match s.outputs.result with
  | some r => .next r
  | none => .refused .resultNotValid

end Sys2Proof.Machine
end

