-- ==== Sys2Proof/Safety.lean ====
section
/-!
DEFINITION. The terms in which claims speak of runs: the micro-program of a command, the traces the spec lists,
the end of a run, and the invariants of the engine.
-/

namespace Sys2Proof

/-- An instant at which engine reset is released and no line access fails. -/
abbrev Inputs.quiet (x : Inputs) : Prop := x.rstN = true ∧ x.lineErr = false

end Sys2Proof

namespace Sys2Proof.Machine

/-! ## Micro-programs -/

/-- The micro-program of a command (43_read_settling.md R171, 44_lifecycle.md R191, R194, R197). -/
def microProgram (i : Instr) : Nat → Option MicroOp :=
  match i with
  | .reset _ => resetProgram
  | .calofs _ => calofsProgram
  | .standby _ => standbyProgram
  | .read ch => readProgram ch

/-- The end index of a command's micro-program, where the completion step stands (10_state.md R27). -/
def endIndex (i : Instr) : Nat :=
  match i with
  | .reset _ => 7
  | .calofs _ => 154
  | .standby _ => 3
  | .read _ => 756

/-- The line a micro-operation touches and how (40_line_controller.md R117); none for DLY, CMP and completion. -/
def MicroOp.access (op : MicroOp) : Option (Line × AccessKind) :=
  match op with
  | .drv l _ => some (l.line, .drv)
  | .startAcquire => some (.sclk, .drv)
  | .waitLow => some (.dout, .smp)
  | .shiftIn => some (.dout, .smp)
  | .qry l => some (l.line, .qry)
  | .dly _ => none
  | .cmp _ => none
  | .settle => none
  | .finish => none
  | .finishRead => none

/-- The nominal length of a delay micro-operation, none for the others (40_line_controller.md R114). -/
def MicroOp.delayNs (op : MicroOp) : Option Nat :=
  match op with
  | .dly n => some n
  | .settle => some tSettle
  | .drv _ _ => none
  | .startAcquire => none
  | .waitLow => none
  | .shiftIn => none
  | .qry _ => none
  | .cmp _ => none
  | .finish => none
  | .finishRead => none

/-- The indices at which a command plays ACQUIRE (41_acquisition.md R131). -/
def acquireStarts (i : Instr) : List Nat :=
  match i with
  | .reset _ => []
  | .calofs _ => [0]
  | .standby _ => []
  | .read _ => [6, 156, 306, 456, 606]

/-- The position of the command in flight: the micro-operation at UPC of the micro-program of CMD_Q. -/
def State.currentOp (s : State) : Option MicroOp := microProgram (commandOf s.cmdQ) s.upc

/-! ## Traces (00_scope.md R11) -/

/-- The events of one data pulse in which DOUT is sampled at a level (41_acquisition.md R131). -/
def pulseTrace (b : Level) : List Event :=
  [.drv .sclk true, .dly 50, .smp b, .dly 50, .drv .sclk false, .dly 100]

/-- The trace of one fault-free ACQUIRE whose samples return the given levels (41_acquisition.md R131). -/
def acquireTrace (levels : List Level) : List Event :=
  [.drv .sclk false, .waited] ++ levels.flatMap pulseTrace ++
    [.drv .sclk true, .dly 100, .drv .sclk false, .dly 100]

/-- The sum of the delays of a trace, in nanoseconds (70_reset_and_hazards.md R260). -/
def delaySum (t : List Event) : Nat :=
  (t.map fun e => match e with
    | .dly n => n
    | .drv _ _ => 0
    | .smp _ => 0
    | .qry _ _ => 0
    | .waited => 0
    | .lineFault _ _ => 0).sum

/-- Whether an event is a delay. -/
def Event.isDelay (e : Event) : Bool :=
  match e with
  | .dly _ => true
  | .drv _ _ => false
  | .smp _ => false
  | .qry _ _ => false
  | .waited => false
  | .lineFault _ _ => false

/-- The level an event sampled, none for other events. -/
def Event.sampled (e : Event) : Option Level :=
  match e with
  | .smp b => some b
  | .drv _ _ => none
  | .qry _ _ => none
  | .dly _ => none
  | .waited => none
  | .lineFault _ _ => none

/-- The levels SHIFTIN has sampled in a trace, in time order. -/
def sampledLevels (t : List Event) : List Level := t.filterMap Event.sampled

/-- The last `n` of the levels SHIFTIN has sampled in a trace. -/
def lastSampled (n : Nat) (t : List Event) : List Level :=
  (sampledLevels t).drop ((sampledLevels t).length - n)

/-- The accumulator after the shift-in steps of a list of levels, from a starting value (41_acquisition.md R134). -/
def shiftAll (acc : Word) (levels : List Level) : Word := levels.foldl shiftInto acc

/-! ## Inputs of a run -/

/-- The level of DOUT at the `n`-th of a list of instants (low past its end). -/
def doutAt (ins : List Inputs) (n : Nat) : Level := (ins[n]?.map Inputs.dout).getD false

/-- The levels of DOUT at the 24 sample instants of an ACQUIRE whose offset 0 is played at instant `start`
(41_acquisition.md R131: offsets 4 + 6k). -/
def sampleLevels (ins : List Inputs) (start : Nat) : List Level :=
  (List.range 24).map fun k => doutAt ins (start + 4 + 6 * k)

/-! ## The end of a command and of a run (70_reset_and_hazards.md R263) -/

/-- The last accepted command has run to its end: SEQ = IDLE and DONE = 1, which acceptance clears. -/
def State.completed (s : State) : Bool := s.seq == .idle && s.done

/-- The last accepted command has faulted: SEQ = FAULTED. -/
def State.halted (s : State) : Bool := s.seq == .faulted

/-- The last word taken from the port was rejected: SEQ = IDLE, REJ = 1 and nothing done. -/
def State.rejected (s : State) : Bool := s.seq == .idle && s.rej && !s.done

/-- The last word taken from the port has come to its end: its command has completed or faulted, or it was
rejected, which "ends at once". -/
def State.ended (s : State) : Bool := s.completed || s.halted || s.rejected

/-- The word a step takes from the command port, to accept or to reject it: there is one exactly when cmd_valid_i = 1
and cmd_ready_o = 1 (30_encoding.md R92). -/
def State.takenWord (s : State) : Option Cmd := if s.now.cmdValid && s.cmdReady then some s.now.cmd else none

/-- The words `k` steps take from the command port, in order: the command sequence they run. -/
def wordsTaken : Nat → State → List Cmd
  | 0, _ => []
  | k + 1, s =>
    s.takenWord.toList ++
      match step s with
      | .next t => wordsTaken k t
      | .fault _ => []
      | .refused _ => []

/-- No step among `k` steps is a rejection. -/
def noneRejected : Nat → State → Bool
  | 0, _ => true
  | k + 1, s =>
    s.move != .reject &&
      match step s with
      | .next t => noneRejected k t
      | .fault _ => true
      | .refused _ => true

/-- `k` steps run a command sequence and have ended well: the words taken are the sequence, which has a last command,
no command was rejected at any of the steps, and at the end the last command has completed and FAULT = 0 (log 21). -/
def State.endedWell (s : State) (k : Nat) (words : List Cmd) : Bool :=
  wordsTaken k s == words && !words.isEmpty && noneRejected k s &&
    match Host.Core.run Sys2Proof.core k s with
    | .next t => t.completed && !t.fault
    | .fault _ => false
    | .refused _ => false

/-! ## Invariants of the engine -/

/-- BUSY is 1 exactly while SEQ = RUN and FAULT exactly while SEQ = FAULTED (10_state.md R31, R35). -/
abbrev State.SeqInv (s : State) : Prop :=
  (s.busy = true ↔ s.seq = .run) ∧ (s.fault = true ↔ s.seq = .faulted)

/-- The outcome flags agree with each other and with the sequencer (10_state.md R32 to R34, R37). -/
abbrev State.FlagInv (s : State) : Prop :=
  (s.done = true → s.seq = .idle) ∧ (s.rvalid = true → s.done = true) ∧
  (s.rej = true → s.seq = .idle ∧ s.done = false ∧ s.chg = false ∧ s.disc = false) ∧
  (s.disc = true → s.chg = true ∧ s.variant = .a)

/-- UPC stays inside the micro-program of CMD_Q, which is a legal command (10_state.md R26, R29). -/
abbrev State.UpcInv (s : State) : Prop :=
  (commandOf s.cmdQ).wellFormed s.variant = true ∧ s.upc ≤ endIndex (commandOf s.cmdQ)

/-- A halted engine stands at the micro-operation that failed and FAULT_CAUSE names its access; no cause is
recorded otherwise (60_exceptions.md R212, R214). -/
abbrev State.CauseInv (s : State) : Prop :=
  (s.seq = .faulted →
    (s.currentOp.bind MicroOp.access).map (fun a => causeOf a.1 a.2) = some s.faultCause) ∧
  (s.seq ≠ .faulted → s.faultCause = 0#5)

/-- RESULT is a sign-extended 24-bit value (10_state.md R23). -/
abbrev State.ResultInv (s : State) : Prop := s.result = (s.result.extractLsb' 0 24).signExtend 32

/-- The select-line levels denote a channel of the variant whenever the engine has not faulted, except between the
two drives of a change (10_state.md R41, 42_channel_select.md R157, R158); between them SEL0 has its new level. -/
abbrev State.SelectInv (s : State) : Prop :=
  s.seq ≠ .faulted →
    if s.seq = .run ∧ opField s.cmdQ = 3#2 ∧ s.upc = 4 then s.sel0Q = sel0Level (chField s.cmdQ)
    else s.variant = .a → (s.sel0Q && s.sel1Q) = false

/-- A READ past its channel change has its channel selected, also after its end (42_channel_select.md R150). -/
abbrev State.SelectedInv (s : State) : Prop :=
  s.seq ≠ .faulted → opField s.cmdQ = 3#2 → (s.seq = .run → 5 ≤ s.upc) →
    s.selectedChannel = chField s.cmdQ

/-- CHG, DISC and PREV_CH of a READ past its CMP say what CMP found, and the position is one its path has
(43_read_settling.md R173, R174, R178); before CMP, and in the other commands, CHG and DISC are 0. -/
abbrev State.ChangeInv (s : State) : Prop :=
  (s.seq = .run ∧ opField s.cmdQ = 3#2 ∧ 3 ≤ s.upc →
    s.chg = (s.prevCh != chField s.cmdQ) ∧
    s.disc = (s.chg && crossing s.variant s.prevCh (chField s.cmdQ)) ∧
    (s.upc ≤ 5 → s.chg = true) ∧ (6 ≤ s.upc → s.upc < lastAcquire → s.disc = true)) ∧
  (s.seq = .run → (opField s.cmdQ ≠ 3#2 ∨ s.upc < 3) → s.chg = false ∧ s.disc = false)

/-- The invariant of the engine. -/
abbrev State.Inv (s : State) : Prop :=
  s.SeqInv ∧ s.FlagInv ∧ s.UpcInv ∧ s.CauseInv ∧ s.ResultInv ∧ s.SelectInv ∧ s.SelectedInv ∧ s.ChangeInv

/-- How many data bits an ACQUIRE has shifted in before its micro-operation at an offset, none at offset 0, where
ACC is not yet cleared (10_state.md R28: `24 - k` bits are still to come before the SHIFTIN of pulse `k`). -/
def bitsShifted (offset : Nat) : Option Nat :=
  if offset = 0 then none else some (min 24 ((offset + 1) / 6))

/-- How many of the last sampled levels stand in ACC at a position of a command: none before ACC has been
cleared (41_acquisition.md R132, R136). -/
def bitsHeld (i : Instr) (upc : Nat) : Option Nat :=
  match i with
  | .reset _ => none
  | .standby _ => none
  | .calofs _ => bitsShifted upc
  | .read _ => if upc < 6 then none else if upc = 756 then some 24 else bitsShifted ((upc - 6) % 150)

/-- ACC holds the levels sampled in the acquisition in progress, and RESULT, while RVALID = 1, the sign extension
of the last 24 levels sampled (20_memory.md R71, 43_read_settling.md R176). -/
abbrev State.SampleInv (s : State) : Prop :=
  (s.seq = .run →
    ((bitsHeld (commandOf s.cmdQ) s.upc).all fun n =>
      decide (n ≤ (sampledLevels s.trace).length) && decide (s.acc = shiftAll 0#32 (lastSampled n s.trace))) = true) ∧
  (s.rvalid = true →
    24 ≤ (sampledLevels s.trace).length ∧ s.result = sext24to32 (shiftAll 0#32 (lastSampled 24 s.trace)))

end Sys2Proof.Machine
end

