-- ==== Sys2Proof/Certificates/Slice0/Obligations.lean ====
section
/-!
DEFINITION. The statements about the model. Each docstring names the rules of spec/ it follows; where a rule is
marked in the spec as the spec's own decision, the docstring says so.
-/

open Sys2Proof Sys2Proof.Machine

/-! ## Encoding -/

/-- The decoder answers exactly the legal encodings: a word decodes to a command if and only if it is the
command's encoding and the command is legal in the variant (30_encoding.md R90, R91, R95, R97; decisions D3, D6). -/
def Obligations.DecodeAnswersExactlyTheLegalEncodings : Prop :=
  ∀ (v : Variant) (w : Cmd) (i : Instr), decode v w = .ok i ↔ encode i = w ∧ i.wellFormed v = true

/-- The rows of 30_encoding.md R97 (decision D3) at their canonical words, at an ignored CH field, and at the
words whose meaning the variant changes. -/
def Obligations.WordsOfTheOpcodeMapDecode : Prop :=
  (∀ v : Variant, decode v 0b0000#4 = .ok (.reset 0#2) ∧ decode v 0b0011#4 = .ok (.reset 3#2) ∧
    decode v 0b0100#4 = .ok (.calofs 0#2) ∧ decode v 0b1000#4 = .ok (.standby 0#2) ∧
    decode v 0b1011#4 = .ok (.standby 3#2) ∧ decode v 0b1100#4 = .ok (.read 0#2) ∧
    decode v 0b1101#4 = .ok (.read 1#2) ∧ decode v 0b1110#4 = .ok (.read 2#2)) ∧
  decode .a 0b1111#4 = .error .readChannel3InVariantA ∧ decode .b 0b1111#4 = .ok (.read 3#2)

/-- 30_encoding.md R95 (decision D6): in variant A the one illegal word is 4'hF, in variant B there is none. -/
def Obligations.OneIllegalWordInVariantA : Prop :=
  ∀ (v : Variant) (w : Cmd), (∃ e, decode v w = .error e) ↔ v = .a ∧ w = 0xF#4

/-- 30_encoding.md R100 (decision D25): `READ TEMP` is accepted for variant A only, `READ IN3` and `READ IN4` for
variant B only, and `READ TEMP` and `READ IN3` assemble to the same word; one example of a line with a comment, which is
dropped. The words are those of R91, R93, R94 and R97 (decisions D3, D4, D7). Which white space is taken, and the CH field
written 00 where it is ignored, are the model's choice (log 20). -/
def Obligations.AssemblerLinesByVariant : Prop :=
  assemble .a "READ TEMP" = some 0xE#4 ∧ assemble .b "READ TEMP" = none ∧
  assemble .b "READ IN3" = some 0xE#4 ∧ assemble .a "READ IN3" = none ∧
  assemble .b "READ IN4" = some 0xF#4 ∧ assemble .a "READ IN4" = none ∧
  assemble .a "READ TEMP ; a comment" = some 0xE#4 ∧
  ∀ v : Variant, assemble v "RESET" = some 0x0#4 ∧ assemble v "CALOFS" = some 0x4#4 ∧
    assemble v "STANDBY" = some 0x8#4 ∧ assemble v "READ IN1" = some 0xC#4 ∧ assemble v "READ IN2" = some 0xD#4

/-! ## Channel select -/

/-- The forward mapping of 42_channel_select.md R152, written (SEL0, SEL1), low as `false`: variant A's three
channels, variant B's four; the levels of a code are its bits. -/
def Obligations.SelectLevelsOfEachChannel : Prop :=
  (∀ ch : ChCode, sel0Level ch = ch.getLsbD 0 ∧ sel1Level ch = ch.getLsbD 1) ∧
  ∀ (v : Variant) (ch : ChCode),
    (channelOf v ch = some .in1 → (sel0Level ch, sel1Level ch) = (false, false)) ∧
    (channelOf v ch = some .in2 → (sel0Level ch, sel1Level ch) = (true, false)) ∧
    (channelOf v ch = some .temp → (sel0Level ch, sel1Level ch) = (false, true)) ∧
    (channelOf v ch = some .in3 → (sel0Level ch, sel1Level ch) = (false, true)) ∧
    (channelOf v ch = some .in4 → (sel0Level ch, sel1Level ch) = (true, true))

/-- 42_channel_select.md R157 (derived there): distinct channels of a variant have distinct level pairs, decoding
the levels of a channel of the variant gives it back, and every pair of levels but variant A's (high, high), which
no channel of variant A maps to, is the pair of the channel it decodes to. -/
def Obligations.SelectMappingIsABijection : Prop :=
  (∀ ch ch' : ChCode, sel0Level ch = sel0Level ch' → sel1Level ch = sel1Level ch' → ch = ch') ∧
  (∀ (v : Variant) (ch : ChCode), (channelOf v ch).isSome = true →
    channelOfLevels v (sel1Level ch) (sel0Level ch) = ch) ∧
  ∀ (v : Variant) (q1 q0 : Level), (v = .a → (q1 && q0) = false) →
    (channelOf v (channelOfLevels v q1 q0)).isSome = true ∧
    sel0Level (channelOfLevels v q1 q0) = q0 ∧ sel1Level (channelOfLevels v q1 q0) = q1

/-- The discard criterion of 43_read_settling.md R174: true exactly when VARIANT = A and exactly one of the old and
the new channel code is TEMP (2'b10). -/
def Obligations.CrossingMeansExactlyOneIsTemp : Prop :=
  ∀ (v : Variant) (old new : ChCode),
    crossing v old new = true ↔ v = .a ∧ ((old = 2#2 ∧ new ≠ 2#2) ∨ (old ≠ 2#2 ∧ new = 2#2))

/-! ## Reset, acceptance, rejection, holding -/

/-- The reset table of 10_state.md R50 (the spec's own values, decision D13), in `State.reset` whatever the strap. -/
def Obligations.StateAfterEngineReset : Prop :=
  State.reset.sclkQ = false ∧ State.reset.pdwnQ = false ∧ State.reset.sel0Q = false ∧ State.reset.sel1Q = false ∧
  State.reset.acc = 0#32 ∧ State.reset.result = 0#32 ∧ State.reset.cmdQ = 0#4 ∧ State.reset.seq = .idle ∧
  State.reset.upc = 0 ∧ State.reset.prevCh = 0#2 ∧ State.reset.busy = false ∧ State.reset.done = false ∧
  State.reset.rvalid = false ∧ State.reset.rej = false ∧ State.reset.fault = false ∧ State.reset.chg = false ∧
  State.reset.disc = false ∧ State.reset.faultCause = 0#5

/-- 70_reset_and_hazards.md R240 (decision D13): rst_n = 0 overrides everything, in every state: each piece of the
engine's state has its reset value after the step. That the strap and the record of line events stay is the
model's choice (logs 4 and 5). -/
def Obligations.EngineResetOverridesEverything : Prop :=
  ∀ s : State, s.now.rstN = false →
    step s = .next
      { s.advance with
        sclkQ := false, pdwnQ := false, sel0Q := false, sel1Q := false, acc := 0#32, result := 0#32, cmdQ := 0#4,
        seq := .idle, upc := 0, prevCh := 0#2, busy := false, done := false, rvalid := false, rej := false,
        fault := false, chg := false, disc := false, faultCause := 0#5 }

/-- A step runs the decoded command: the word at the port of an idle engine where it decodes, the latched word
of a running engine; after the command's step the instant has passed, and a fault stops the step as it stops the
command. With no word at the port an idle engine holds. -/
def Obligations.StepRunsTheDecodedCommand : Prop :=
  ∀ s : State, s.now.rstN = true →
    (∀ i, s.seq = .idle → s.now.cmdValid = true → decode s.variant s.now.cmd = .ok i →
      (∀ t, exec i s = .next t → step s = .next t.advance) ∧ (∀ r, exec i s = .fault r → step s = .fault r)) ∧
    (s.seq = .run →
      (∀ t, exec (commandOf s.cmdQ) s = .next t → step s = .next t.advance) ∧
      (∀ r, exec (commandOf s.cmdQ) s = .fault r → step s = .fault r)) ∧
    (s.seq = .idle → s.now.cmdValid = false → step s = .next s.advance)

/-- Placing a word makes the next step take it: the step after `withFetchWord` is the presentation of the decoded
command to the idle engine (log 11). -/
def Obligations.PlacedWordIsTakenByTheNextStep : Prop :=
  ∀ (s : State) (nbits w : Nat) (i : Instr), decodeTableWord nbits w = some i → i.wellFormed s.variant = true →
    exec i (s.withFetchWord nbits w) = .next ((s.withFetchWord nbits w).accept (encode i)) ∧
    step (s.withFetchWord nbits w) = .next ((s.withFetchWord nbits w).accept (encode i)).advance

/-- 30_encoding.md R92 (decision D20): an idle engine accepts every legal command: the word is latched, SEQ = RUN,
UPC = 0, BUSY = 1, and DONE, RVALID, REJ, CHG, DISC are cleared; nothing else changes, and no line event occurs.
That `exec` of a command on an idle engine is its presentation is the model's choice (log 13). -/
def Obligations.IdleEngineAcceptsEveryLegalCommand : Prop :=
  ∀ (i : Instr) (s : State), s.seq = .idle → i.wellFormed s.variant = true →
    exec i s = .next
      { s with
        cmdQ := encode i, seq := .run, upc := 0, busy := true, done := false, rvalid := false, rej := false,
        chg := false, disc := false }

/-- 60_exceptions.md R213 (decisions D6, D21): an illegal word at the port of an idle engine sets REJ, clears DONE,
RVALID, CHG and DISC, and changes nothing else. That `exec` of READ 3 on an idle engine of variant A rejects it too is
the model's choice (log 13): the step rejects the word before it has a command. -/
def Obligations.IllegalWordIsRejected : Prop :=
  ∀ s : State, s.seq = .idle → s.variant = .a →
    exec (.read 3#2) s =
      .next { s with rej := true, done := false, rvalid := false, chg := false, disc := false } ∧
    (s.now.rstN = true → s.now.cmdValid = true → s.now.cmd = 0xF#4 →
      step s = .next { s.advance with rej := true, done := false, rvalid := false, chg := false, disc := false })

/-- 60_exceptions.md R219 (decision D11): a halted engine takes no command, accepts none, rejects none, and cannot
fault again; only engine reset leaves the state. -/
def Obligations.HaltedEngineDoesNothing : Prop :=
  ∀ s : State, s.seq = .faulted →
    (∀ i, exec i s = .next s) ∧ (s.now.rstN = true → step s = .next s.advance)

/-- 30_encoding.md R92 and 20_memory.md R73 (decisions D20, D3): what the command port shows while the engine runs
or has halted has no effect on the step. -/
def Obligations.CommandPortIsIgnoredUnlessIdle : Prop :=
  ∀ (s : State) (x : Inputs) (rest : List Inputs) (valid : Bool) (w : Cmd), s.seq ≠ .idle → s.env = x :: rest →
    step { s with env := { x with cmdValid := valid, cmd := w } :: rest } = step s

/-! ## The micro-operations -/

/-- DRV(l, v), 40_line_controller.md R111: where the access does not fail the register of line `l` takes the level
`v`, also where it holds it already, and the position moves on; nothing else changes but the trace, which gains the
event. Where it fails LineFault(l, DRV) is taken and the register keeps its level. The output port follows the
register. In READ the levels driven on SEL0 and SEL1 are CH[0] and CH[1]. The entry of the fault is R212 (D11), its codes
R214 (D12), the indices 3 and 4 are decision D1. -/
def Obligations.DriveWritesItsLineRegisterOnly : Prop :=
  (∀ ch : ChCode, microProgram (.read ch) 3 = some (.drv .sel0 (ch.getLsbD 0)) ∧
    microProgram (.read ch) 4 = some (.drv .sel1 (ch.getLsbD 1))) ∧
  (∀ s : State, s.now.rstN = true →
    s.outputs.sclk = s.lineReg .sclk ∧ s.outputs.pdwn = s.lineReg .pdwn ∧ s.outputs.sel0 = s.lineReg .sel0 ∧
    s.outputs.sel1 = s.lineReg .sel1) ∧
  ∀ (l : OutLine) (v : Level) (s : State),
    (s.now.lineErr = false →
      microStep (.drv l v) s =
        { s with
          sclkQ := if l = .sclk then v else s.sclkQ
          pdwnQ := if l = .pdwn then v else s.pdwnQ
          sel0Q := if l = .sel0 then v else s.sel0Q
          sel1Q := if l = .sel1 then v else s.sel1Q
          upc := s.upc + 1
          trace := s.trace ++ [.drv l v] }) ∧
    (s.now.lineErr = true →
      microStep (.drv l v) s =
        { s with
          fault := true, busy := false, seq := .faulted, faultCause := causeOf l.line .drv
          trace := s.trace ++ [.lineFault l.line .drv] })

/-- QRY(l), 40_line_controller.md R113: the level delivered is the line register's; no state is written but the
position. Where the access fails LineFault(l, QRY) is taken (entry and codes: R212, R214, decisions D11 and D12). After
engine reset the level is 0. -/
def Obligations.QueryDeliversTheLineRegister : Prop :=
  (∀ s : State, s.engineReset.lastDriven .sel0 = false ∧ s.engineReset.lastDriven .sel1 = false) ∧
  ∀ s : State,
    (s.now.lineErr = false →
      microStep (.qry .sel0) s = { s with upc := s.upc + 1, trace := s.trace ++ [.qry .sel0 s.sel0Q] } ∧
      microStep (.qry .sel1) s = { s with upc := s.upc + 1, trace := s.trace ++ [.qry .sel1 s.sel1Q] }) ∧
    (s.now.lineErr = true →
      microStep (.qry .sel0) s =
        { s with
          fault := true, busy := false, seq := .faulted, faultCause := 0x13#5
          trace := s.trace ++ [.lineFault .sel0 .qry] } ∧
      microStep (.qry .sel1) s =
        { s with
          fault := true, busy := false, seq := .faulted, faultCause := 0x14#5
          trace := s.trace ++ [.lineFault .sel1 .qry] })

/-- SHIFTIN, 41_acquisition.md R134: ACC is shifted left by one, dropping bit 31, and the sampled level becomes its
bit 0; where the sample fails LineFault(DOUT, SMP) is taken (entry and code: R212, R214, decisions D11 and D12) and ACC is
unchanged. After 24 steps, from any ACC, the
sample of pulse `k` stands in ACC[23 - k] (20_memory.md R63: most significant bit first), and from a cleared ACC no
1 bit is ever shifted out. -/
def Obligations.ShiftInShiftsThenTakesTheLevel : Prop :=
  (∀ s : State,
    (s.now.lineErr = false →
      microStep .shiftIn s =
        { s with
          acc := s.acc.extractLsb' 0 31 ++ BitVec.ofBool s.now.dout
          upc := s.upc + 1
          trace := s.trace ++ [.smp s.now.dout] }) ∧
    (s.now.lineErr = true →
      microStep .shiftIn s =
        { s with
          fault := true, busy := false, seq := .faulted, faultCause := 0x08#5
          trace := s.trace ++ [.lineFault .dout .smp] })) ∧
  (∀ (acc : Word) (levels : List Level), levels.length = 24 →
    ∀ k < 24, (shiftAll acc levels).getLsbD (23 - k) = levels.getD k false) ∧
  ∀ levels : List Level, levels.length ≤ 24 → (shiftAll 0#32 levels).toNat < 2 ^ levels.length

/-- WAITLOW, 40_line_controller.md R115 (decision D9), one poll: a low level completes it, at the first poll too; a
high level changes nothing; a failed poll takes LineFault(DOUT, SMP) (entry and code: R212, R214, decisions D11 and D12;
log 18). The level wait is log 7. -/
def Obligations.WaitLowCompletesOnALowLevelOnly : Prop :=
  ∀ s : State,
    (s.now.lineErr = false → s.now.dout = false →
      microStep .waitLow s = { s with upc := s.upc + 1, trace := s.trace ++ [.waited] }) ∧
    (s.now.lineErr = false → s.now.dout = true → microStep .waitLow s = s) ∧
    (s.now.lineErr = true →
      microStep .waitLow s =
        { s with
          fault := true, busy := false, seq := .faulted, faultCause := 0x08#5
          trace := s.trace ++ [.lineFault .dout .smp] })

/-- CMP, 43_read_settling.md R173 (derived there from R154): PREV_CH takes the selected channel, CHG whether it
differs from the requested one, DISC whether in addition the transition crosses the temperature channel; the
position goes to 3 on a change, else to 606; nothing else changes, whatever the line-error input. -/
def Obligations.CompareSetsChangeFlagsAndPath : Prop :=
  ∀ (ch : ChCode) (s : State),
    (s.selectedChannel = ch →
      microStep (.cmp ch) s = { s with prevCh := ch, chg := false, disc := false, upc := 606 }) ∧
    (s.selectedChannel ≠ ch →
      microStep (.cmp ch) s =
        { s with
          prevCh := s.selectedChannel, chg := true, disc := crossing s.variant s.selectedChannel ch, upc := 3 })

/-! ## Line faults -/

/-- 60_exceptions.md R212 (decision D11): at every line micro-operation of every command a failed access takes the
one exception: FAULT = 1, FAULT_CAUSE names the line and the kind, BUSY = 0, SEQ = FAULTED; the position, CMD_Q, the
lines, ACC, RESULT, DONE, RVALID and the rest keep their values, and the trace gains the fault marker. -/
def Obligations.EveryFailedLineAccessFaults : Prop :=
  ∀ (i : Instr) (s : State) (op : MicroOp) (l : Line) (k : AccessKind),
    s.seq = .run → microProgram i s.upc = some op → op.access = some (l, k) → s.now.lineErr = true →
      exec i s = .next
        { s with
          fault := true, busy := false, seq := .faulted, faultCause := causeOf l k
          trace := s.trace ++ [.lineFault l k] }

/-- 40_line_controller.md R117: DLY, CMP and completion cannot fail: with the line-error input at 1 or at 0 a
micro-operation that touches no line has the same outcome, and it records no fault. -/
def Obligations.StepsWithoutLineAccessCannotFail : Prop :=
  ∀ (i : Instr) (s : State) (op : MicroOp), s.seq = .run → microProgram i s.upc = some op → op.access = none →
    ∃ t, exec i s = .next t ∧ t.fault = s.fault ∧ t.faultCause = s.faultCause ∧
      ∀ (x : Inputs) (rest : List Inputs) (e : Bool), s.env = x :: rest →
        exec i { s with env := { x with lineErr := e } :: rest } =
          .next { t with env := { x with lineErr := e } :: rest }

/-- 60_exceptions.md R214 (decision D12), "By command": the causes each command can raise, and no others. -/
def Obligations.FaultCausesOfEachCommand : Prop :=
  ∀ (i : Instr) (c : BitVec 5),
    (∃ n op a, microProgram i n = some op ∧ op.access = some a ∧ causeOf a.1 a.2 = c) ↔
      match i with
      | .reset _ => c = 0x02#5
      | .calofs _ => c = 0x01#5 ∨ c = 0x08#5
      | .standby _ => c = 0x01#5 ∨ c = 0x08#5
      | .read _ => c = 0x13#5 ∨ c = 0x14#5 ∨ c = 0x03#5 ∨ c = 0x04#5 ∨ c = 0x01#5 ∨ c = 0x08#5

/-! ## The commands -/

/-- RESET, 44_lifecycle.md R191, at every index with no failed access: it drives power-down low, waits 50 000 ns,
high, 26 000 ns, low, 26 000 ns, high, and completes at index 7. Each step changes PDWN_Q, the position and the
trace only; the completion DONE, BUSY and SEQ only. -/
def Obligations.ResetPlaysThePowerDownPulseTrain : Prop :=
  ∀ (ch : ChCode) (s : State), s.seq = .run → s.now.lineErr = false →
    (s.upc = 0 → exec (.reset ch) s =
      .next { s with pdwnQ := false, upc := 1, trace := s.trace ++ [.drv .pdwn false] }) ∧
    (s.upc = 1 → exec (.reset ch) s = .next { s with upc := 2, trace := s.trace ++ [.dly 50000] }) ∧
    (s.upc = 2 → exec (.reset ch) s =
      .next { s with pdwnQ := true, upc := 3, trace := s.trace ++ [.drv .pdwn true] }) ∧
    (s.upc = 3 → exec (.reset ch) s = .next { s with upc := 4, trace := s.trace ++ [.dly 26000] }) ∧
    (s.upc = 4 → exec (.reset ch) s =
      .next { s with pdwnQ := false, upc := 5, trace := s.trace ++ [.drv .pdwn false] }) ∧
    (s.upc = 5 → exec (.reset ch) s = .next { s with upc := 6, trace := s.trace ++ [.dly 26000] }) ∧
    (s.upc = 6 → exec (.reset ch) s =
      .next { s with pdwnQ := true, upc := 7, trace := s.trace ++ [.drv .pdwn true] }) ∧
    (s.upc = 7 → exec (.reset ch) s = .next { s with done := true, busy := false, seq := .idle })

/-- STANDBY, 44_lifecycle.md R197, at every index with no failed access: clock low, wait until DOUT is low, clock
high, completion. No data bit is read. -/
def Obligations.StandbyPlaysClockLowWaitClockHigh : Prop :=
  ∀ (ch : ChCode) (s : State), s.seq = .run → s.now.lineErr = false →
    (s.upc = 0 → exec (.standby ch) s =
      .next { s with sclkQ := false, upc := 1, trace := s.trace ++ [.drv .sclk false] }) ∧
    (s.upc = 1 → s.now.dout = false → exec (.standby ch) s =
      .next { s with upc := 2, trace := s.trace ++ [.waited] }) ∧
    (s.upc = 1 → s.now.dout = true → exec (.standby ch) s = .next s) ∧
    (s.upc = 2 → exec (.standby ch) s =
      .next { s with sclkQ := true, upc := 3, trace := s.trace ++ [.drv .sclk true] }) ∧
    (s.upc = 3 → exec (.standby ch) s = .next { s with done := true, busy := false, seq := .idle })

/-- ACQUIRE, 41_acquisition.md R131, where READ and CALOFS play it (R131: index 0 in CALOFS; 6, 156, 306, 456 and 606
in READ), at every offset with no failed access: clock low with ACC cleared, the wait, the six steps of each of
the 24 data pulses, the four of the 25th pulse. -/
def Obligations.AcquireStepsInReadAndCalofs : Prop :=
  ∀ (i : Instr) (s : State) (a : Nat),
    ((∃ ch, i = .calofs ch) ∧ a = 0 ∨
      (∃ ch, i = .read ch) ∧ (a = 6 ∨ a = 156 ∨ a = 306 ∨ a = 456 ∨ a = 606)) →
    s.seq = .run → s.now.lineErr = false →
    (s.upc = a → exec i s =
      .next { s with sclkQ := false, acc := 0#32, upc := a + 1, trace := s.trace ++ [.drv .sclk false] }) ∧
    (s.upc = a + 1 → s.now.dout = false → exec i s = .next { s with upc := a + 2, trace := s.trace ++ [.waited] }) ∧
    (s.upc = a + 1 → s.now.dout = true → exec i s = .next s) ∧
    (∀ k < 24,
      (s.upc = a + 2 + 6 * k → exec i s =
        .next { s with sclkQ := true, upc := a + 3 + 6 * k, trace := s.trace ++ [.drv .sclk true] }) ∧
      (s.upc = a + 3 + 6 * k → exec i s = .next { s with upc := a + 4 + 6 * k, trace := s.trace ++ [.dly 50] }) ∧
      (s.upc = a + 4 + 6 * k → exec i s =
        .next { s with
          acc := (s.acc <<< 1) ||| (if s.now.dout then 1#32 else 0#32)
          upc := a + 5 + 6 * k
          trace := s.trace ++ [.smp s.now.dout] }) ∧
      (s.upc = a + 5 + 6 * k → exec i s = .next { s with upc := a + 6 + 6 * k, trace := s.trace ++ [.dly 50] }) ∧
      (s.upc = a + 6 + 6 * k → exec i s =
        .next { s with sclkQ := false, upc := a + 7 + 6 * k, trace := s.trace ++ [.drv .sclk false] }) ∧
      (s.upc = a + 7 + 6 * k → exec i s =
        .next { s with upc := a + 8 + 6 * k, trace := s.trace ++ [.dly 100] })) ∧
    (s.upc = a + 146 → exec i s =
      .next { s with sclkQ := true, upc := a + 147, trace := s.trace ++ [.drv .sclk true] }) ∧
    (s.upc = a + 147 → exec i s = .next { s with upc := a + 148, trace := s.trace ++ [.dly 100] }) ∧
    (s.upc = a + 148 → exec i s =
      .next { s with sclkQ := false, upc := a + 149, trace := s.trace ++ [.drv .sclk false] }) ∧
    (s.upc = a + 149 → exec i s = .next { s with upc := a + 150, trace := s.trace ++ [.dly 100] })

/-- CALOFS after its acquisition, 44_lifecycle.md R194, indices 150 to 154 with no failed access: the 26th pulse,
the wait for the end of calibration, completion, which writes neither RESULT nor RVALID. -/
def Obligations.CalofsPlaysThe26thPulseAndWaits : Prop :=
  ∀ (ch : ChCode) (s : State), s.seq = .run → s.now.lineErr = false →
    (s.upc = 150 → exec (.calofs ch) s =
      .next { s with sclkQ := true, upc := 151, trace := s.trace ++ [.drv .sclk true] }) ∧
    (s.upc = 151 → exec (.calofs ch) s = .next { s with upc := 152, trace := s.trace ++ [.dly 100] }) ∧
    (s.upc = 152 → exec (.calofs ch) s =
      .next { s with sclkQ := false, upc := 153, trace := s.trace ++ [.drv .sclk false] }) ∧
    (s.upc = 153 → s.now.dout = false → exec (.calofs ch) s =
      .next { s with upc := 154, trace := s.trace ++ [.waited] }) ∧
    (s.upc = 153 → s.now.dout = true → exec (.calofs ch) s = .next s) ∧
    (s.upc = 154 → exec (.calofs ch) s = .next { s with done := true, busy := false, seq := .idle })

/-- READ outside its acquisitions, 43_read_settling.md R170 and R171 (indices: decisions D1, D17), with no failed
access: the two queries, CMP, the two drives, the settling delay with its skip, and the completion, which writes
the sign extension of ACC to RESULT and sets RVALID. -/
def Obligations.ReadQueriesComparesDrivesSettlesCompletes : Prop :=
  ∀ (ch : ChCode) (s : State), s.seq = .run → s.now.lineErr = false →
    (s.upc = 0 → exec (.read ch) s = .next { s with upc := 1, trace := s.trace ++ [.qry .sel0 s.sel0Q] }) ∧
    (s.upc = 1 → exec (.read ch) s = .next { s with upc := 2, trace := s.trace ++ [.qry .sel1 s.sel1Q] }) ∧
    (s.upc = 2 → exec (.read ch) s =
      .next { s with
        prevCh := s.selectedChannel
        chg := s.selectedChannel != ch
        disc := s.selectedChannel != ch && crossing s.variant s.selectedChannel ch
        upc := if s.selectedChannel = ch then 606 else 3 }) ∧
    (s.upc = 3 → exec (.read ch) s =
      .next { s with sel0Q := ch.getLsbD 0, upc := 4, trace := s.trace ++ [.drv .sel0 (ch.getLsbD 0)] }) ∧
    (s.upc = 4 → exec (.read ch) s =
      .next { s with sel1Q := ch.getLsbD 1, upc := 5, trace := s.trace ++ [.drv .sel1 (ch.getLsbD 1)] }) ∧
    (s.upc = 5 → exec (.read ch) s =
      .next { s with upc := if s.disc then 6 else 606, trace := s.trace ++ [.dly 50000] }) ∧
    (s.upc = 756 → exec (.read ch) s =
      .next { s with
        result := (s.acc.extractLsb' 0 24).signExtend 32
        rvalid := true, done := true, busy := false, seq := .idle })

/-- 42_channel_select.md R156, in both variants: a READ of the selected channel drives neither select line and
takes neither the settling delay nor the discards: its CMP goes straight to the last acquisition, and from there
no micro-operation of READ drives a select line or is the settling delay. -/
def Obligations.ReadOfTheSelectedChannelSkipsTheChange : Prop :=
  (∀ s : State, s.seq = .run → s.upc = 2 →
    exec (.read s.selectedChannel) s =
      .next { s with prevCh := s.selectedChannel, chg := false, disc := false, upc := 606 }) ∧
  ∀ (ch : ChCode) (n : Nat) (op : MicroOp), 606 ≤ n → readProgram ch n = some op →
    op ≠ .settle ∧ ∀ v, op ≠ .drv .sel0 v ∧ op ≠ .drv .sel1 v

/-! ## Whole commands -/

/-- The whole RESET command from an idle engine, 44_lifecycle.md R191 and R192: with no failed access and no engine
reset, nine steps after the word (any CH field) stands at the port PDWN_Q is 1, DONE is 1, the trace has the pulse
train with its three delays, and the rest is as it was (RVALID, REJ, CHG, DISC cleared at acceptance). -/
def Obligations.ResetCommandRun : Prop :=
  ∀ (s : State) (x : Inputs) (ins rest : List Inputs), s.seq = .idle → s.env = x :: (ins ++ rest) →
    x.rstN = true → x.cmdValid = true → opField x.cmd = 0#2 → ins.length = 8 → (∀ y ∈ ins, y.quiet) →
    Host.Core.run Sys2Proof.core 9 s = .next
      { s with
        pdwnQ := true, cmdQ := x.cmd, seq := .idle, upc := 7, busy := false, done := true, rvalid := false
        rej := false, chg := false, disc := false, env := rest
        trace := s.trace ++ [.drv .pdwn false, .dly 50000, .drv .pdwn true, .dly 26000, .drv .pdwn false, .dly 26000,
          .drv .pdwn true] }

/-- The whole STANDBY command from an idle engine, 44_lifecycle.md R197 and R198: clock low, any number of high polls,
one low poll, clock high; no data bit is read, ACC is unchanged. That the wait completes at the first low poll, also
where no high poll came before it, is the level wait of decision D9 (U4; log 7). -/
def Obligations.StandbyCommandRun : Prop :=
  ∀ (s : State) (x y0 low y2 y3 : Inputs) (highs rest : List Inputs), s.seq = .idle →
    s.env = x :: y0 :: (highs ++ low :: y2 :: y3 :: rest) →
    x.rstN = true → x.cmdValid = true → opField x.cmd = 2#2 →
    y0.quiet → y2.quiet → y3.quiet → (∀ y ∈ highs, y.quiet ∧ y.dout = true) → low.quiet → low.dout = false →
    Host.Core.run Sys2Proof.core (highs.length + 5) s = .next
      { s with
        sclkQ := true, cmdQ := x.cmd, seq := .idle, upc := 3, busy := false, done := true, rvalid := false
        rej := false, chg := false, disc := false, env := rest
        trace := s.trace ++ [.drv .sclk false, .waited, .drv .sclk true] }

/-- One whole ACQUIRE, 41_acquisition.md R131 and R136: wherever READ or CALOFS plays it, with no failed access and
DOUT low at its first poll, which completes the level wait (decision D9; log 7), 150 steps give its 150-event trace, SCLK_Q = 0, and ACC with the 24 sampled levels, the
first in bit 23; nothing else changes. -/
def Obligations.AcquireRun : Prop :=
  ∀ (s : State) (a : Nat) (ins rest : List Inputs), s.seq = .run → a ∈ acquireStarts (commandOf s.cmdQ) → s.upc = a →
    s.env = ins ++ rest → ins.length = 150 → (∀ y ∈ ins, y.quiet) → doutAt ins 1 = false →
    ∃ acc : Word, acc.extractLsb' 24 8 = 0#8 ∧
      (∀ k < 24, acc.getLsbD (23 - k) = doutAt ins (4 + 6 * k)) ∧
      Host.Core.run Sys2Proof.core 150 s = .next
        { s with
          sclkQ := false, acc := acc, upc := a + 150, env := rest
          trace := s.trace ++ acquireTrace (sampleLevels ins 0) }

/-- The whole CALOFS command from an idle engine, 44_lifecycle.md R194: the acquisition, the 26th pulse, any number of
high polls, one low poll. RESULT is not written, RVALID stays 0, ACC holds the discarded sample, the select lines
and PDWN are untouched. That each wait completes at the first low poll, also where no high poll came before it, is the
level wait of decision D9 (U4; log 7). -/
def Obligations.CalofsCommandRun : Prop :=
  ∀ (s : State) (x y0 y1 y2 low y4 : Inputs) (ins highs rest : List Inputs), s.seq = .idle →
    s.env = x :: (ins ++ y0 :: y1 :: y2 :: (highs ++ low :: y4 :: rest)) →
    x.rstN = true → x.cmdValid = true → opField x.cmd = 1#2 →
    ins.length = 150 → (∀ y ∈ ins, y.quiet) → doutAt ins 1 = false →
    y0.quiet → y1.quiet → y2.quiet → y4.quiet → (∀ y ∈ highs, y.quiet ∧ y.dout = true) → low.quiet → low.dout = false →
    Host.Core.run Sys2Proof.core (highs.length + 156) s = .next
      { s with
        sclkQ := false, acc := shiftAll 0#32 (sampleLevels ins 0), cmdQ := x.cmd, seq := .idle, upc := 154
        busy := false, done := true, rvalid := false, rej := false, chg := false, disc := false, env := rest
        trace := s.trace ++ acquireTrace (sampleLevels ins 0) ++
          [.drv .sclk true, .dly 100, .drv .sclk false, .waited] }

/-- The whole READ command from an idle engine, on each of its three paths, 43_read_settling.md R170 and R178: with no
failed access and DOUT low at the first poll of each acquisition, the command ends with the requested channel
selected, PREV_CH, CHG and DISC as CMP found them, and RESULT the sign extension of the 24 levels sampled by the last
acquisition, one acquisition where the transition does not cross the temperature channel and five where it does; the
trace is that of the path. It rests on the level wait of decision D9 (U4; log 7), which completes at a low first poll, and
on the order of the queries and of the drives, SEL0 first, and of delay and discards, decisions D16, D15 and D17 (log 18). -/
def Obligations.ReadCommandRun : Prop :=
  ∀ (s : State) (x : Inputs) (ins rest : List Inputs) (ch : ChCode), s.seq = .idle → s.env = x :: (ins ++ rest) →
    x.rstN = true → x.cmdValid = true → x.cmd = encode (.read ch) → (Instr.read ch).wellFormed s.variant = true →
    let changed := s.selectedChannel != ch
    let crosses := changed && crossing s.variant s.selectedChannel ch
    let before := if changed then 6 else 3
    let count := if crosses then 5 else 1
    ins.length = before + 150 * count + 1 → (∀ y ∈ ins, y.quiet) →
    (∀ j < count, doutAt ins (before + 150 * j + 1) = false) →
    Host.Core.run Sys2Proof.core (before + 150 * count + 2) s = .next
      { s with
        sclkQ := false
        sel0Q := if changed then ch.getLsbD 0 else s.sel0Q
        sel1Q := if changed then ch.getLsbD 1 else s.sel1Q
        acc := shiftAll 0#32 (sampleLevels ins (before + 150 * (count - 1)))
        result := sext24to32 (shiftAll 0#32 (sampleLevels ins (before + 150 * (count - 1))))
        cmdQ := x.cmd, seq := .idle, upc := 756, prevCh := s.selectedChannel
        busy := false, done := true, rvalid := true, rej := false, chg := changed, disc := crosses, env := rest
        trace := s.trace ++ [.qry .sel0 s.sel0Q, .qry .sel1 s.sel1Q] ++
          (if changed then [.drv .sel0 (ch.getLsbD 0), .drv .sel1 (ch.getLsbD 1), .dly 50000] else []) ++
          (List.range count).flatMap fun j => acquireTrace (sampleLevels ins (before + 150 * j)) }

/-- 70_reset_and_hazards.md R252: a hang. While the engine stands at a WAITLOW and DOUT is high at every poll, any
number of steps changes nothing of the engine: BUSY stays, no progress, no fault. The positions of WAITLOW are the
rule's: offset 1 of every ACQUIRE, index 153 of CALOFS, index 1 of STANDBY, and no others. -/
def Obligations.WaitLowHoldsWhileDoutIsHigh : Prop :=
  (∀ (i : Instr) (n : Nat), microProgram i n = some .waitLow ↔
    (∃ a ∈ acquireStarts i, n = a + 1) ∨ (∃ ch, i = .calofs ch ∧ n = 153) ∨ (∃ ch, i = .standby ch ∧ n = 1)) ∧
  ∀ (s : State) (highs rest : List Inputs), s.seq = .run → s.currentOp = some .waitLow → s.env = highs ++ rest →
    (∀ y ∈ highs, y.quiet ∧ y.dout = true) →
    Host.Core.run Sys2Proof.core highs.length s = .next { s with env := rest }

/-! ## Frames and whole-machine rules -/

/-- The frame of RESET, 44_lifecycle.md R191: it touches neither SCLK nor the select lines, ACC, RESULT or PREV_CH.
While it runs it keeps CMD_Q and the flags RVALID, REJ, CHG, DISC. The strap and the inputs stay. -/
def Obligations.ResetFrame : Prop :=
  ∀ (ch : ChCode) (s t : State), exec (.reset ch) s = .next t →
    t.sclkQ = s.sclkQ ∧ t.sel0Q = s.sel0Q ∧ t.sel1Q = s.sel1Q ∧ t.acc = s.acc ∧ t.result = s.result ∧
    t.prevCh = s.prevCh ∧ t.variant = s.variant ∧ t.env = s.env ∧ t.draws = s.draws ∧
    (s.seq ≠ .idle → t.cmdQ = s.cmdQ ∧ t.rvalid = s.rvalid ∧ t.rej = s.rej ∧ t.chg = s.chg ∧ t.disc = s.disc) ∧
    (s.seq = .idle → t.pdwnQ = s.pdwnQ ∧ t.fault = s.fault ∧ t.faultCause = s.faultCause ∧ t.trace = s.trace) ∧
    (s.now.lineErr = false → t.fault = s.fault ∧ t.faultCause = s.faultCause)

/-- The frame of CALOFS and STANDBY, 44_lifecycle.md R194 and R197: they touch neither PDWN nor the select lines,
RESULT or PREV_CH, and STANDBY does not touch ACC ("it must not read any data bits"). While they run they keep CMD_Q
and the flags RVALID, REJ, CHG, DISC. -/
def Obligations.CalofsAndStandbyFrame : Prop :=
  ∀ (i : Instr) (ch : ChCode) (s t : State), i = .calofs ch ∨ i = .standby ch → exec i s = .next t →
    t.pdwnQ = s.pdwnQ ∧ t.sel0Q = s.sel0Q ∧ t.sel1Q = s.sel1Q ∧ t.result = s.result ∧ t.prevCh = s.prevCh ∧
    (i = .standby ch → t.acc = s.acc) ∧ t.variant = s.variant ∧ t.env = s.env ∧ t.draws = s.draws ∧
    (s.seq ≠ .idle → t.cmdQ = s.cmdQ ∧ t.rvalid = s.rvalid ∧ t.rej = s.rej ∧ t.chg = s.chg ∧ t.disc = s.disc) ∧
    (s.seq = .idle → t.sclkQ = s.sclkQ ∧ t.acc = s.acc ∧ t.fault = s.fault ∧ t.faultCause = s.faultCause ∧
      t.trace = s.trace) ∧
    (s.now.lineErr = false → t.fault = s.fault ∧ t.faultCause = s.faultCause)

/-- The frame of READ, 43_read_settling.md R170 and R180: PDWN is not touched; the select lines change at indices 3 and
4 only, PREV_CH, CHG and DISC at index 2 only (or at acceptance or rejection, CHG and DISC), ACC inside acquisitions
only, RESULT and RVALID at the end index only (or RVALID at acceptance or rejection). -/
def Obligations.ReadFrame : Prop :=
  ∀ (ch : ChCode) (s t : State), exec (.read ch) s = .next t →
    t.pdwnQ = s.pdwnQ ∧ t.variant = s.variant ∧ t.env = s.env ∧ t.draws = s.draws ∧
    (¬(s.seq = .run ∧ s.upc = 3) → t.sel0Q = s.sel0Q) ∧ (¬(s.seq = .run ∧ s.upc = 4) → t.sel1Q = s.sel1Q) ∧
    (¬(s.seq = .run ∧ 6 ≤ s.upc ∧ s.upc < 756) → t.sclkQ = s.sclkQ ∧ t.acc = s.acc) ∧
    (¬(s.seq = .run ∧ s.upc = 2) → t.prevCh = s.prevCh) ∧
    (¬(s.seq = .run ∧ s.upc = 756) → t.result = s.result) ∧
    (s.seq ≠ .idle → t.cmdQ = s.cmdQ ∧ t.rej = s.rej ∧ (s.upc ≠ 2 → t.chg = s.chg ∧ t.disc = s.disc) ∧
      (s.upc ≠ 756 → t.rvalid = s.rvalid)) ∧
    (s.seq = .idle → t.fault = s.fault ∧ t.faultCause = s.faultCause ∧ t.trace = s.trace) ∧
    (s.now.lineErr = false → t.fault = s.fault ∧ t.faultCause = s.faultCause)

/-- 42_channel_select.md R160: only READ changes the select lines: a step that changes SEL0_Q or SEL1_Q is engine reset
or a step of a READ. RESET, CALOFS and STANDBY neither query nor drive SEL0 or SEL1. After engine reset the selected
channel is IN1 in both variants. -/
def Obligations.OnlyReadChangesTheSelectLines : Prop :=
  (∀ s t : State, step s = .next t → t.sel0Q ≠ s.sel0Q ∨ t.sel1Q ≠ s.sel1Q →
    s.now.rstN = false ∨ (s.seq = .run ∧ ∃ ch, commandOf s.cmdQ = .read ch)) ∧
  (∀ (i : Instr) (n : Nat) (op : MicroOp), (∀ ch, i ≠ .read ch) → microProgram i n = some op →
    (∀ l, op ≠ .qry l) ∧ ∀ v, op ≠ .drv .sel0 v ∧ op ≠ .drv .sel1 v) ∧
  ∀ v : Variant, channelOf v (State.selectedChannel { State.reset with variant := v }) = some .in1

/-- 70_reset_and_hazards.md R246: a READ, CALOFS or STANDBY issued while PDWN_Q = 0 is performed like any other: the level
of PDWN_Q has no effect on any step of these commands, and they leave it as it is. -/
def Obligations.OnlyResetDependsOnPowerDown : Prop :=
  ∀ (i : Instr) (s t : State) (p : Level), (∀ ch, i ≠ .reset ch) → exec i s = .next t →
    t.pdwnQ = s.pdwnQ ∧ exec i { s with pdwnQ := p } = .next { t with pdwnQ := p }

/-- 10_state.md R39: a line register is written only by a successful DRV on its line, which is an event of the trace,
and by engine reset; a step whose event is not a drive of the line leaves the register as it is. -/
def Obligations.LineRegistersFollowTheDrives : Prop :=
  ∀ (s t : State) (l : OutLine), step s = .next t → s.now.rstN = true →
    (∃ v, t.trace = s.trace ++ [.drv l v] ∧ t.lineReg l = v) ∨
    (t.lineReg l = s.lineReg l ∧ ∀ v, t.trace ≠ s.trace ++ [.drv l v])

/-- 20_memory.md R69: one micro-operation at a time. A step adds at most one event to the trace and takes none away;
an event is added only while a command runs. -/
def Obligations.EachStepAddsAtMostOneEvent : Prop :=
  ∀ s t : State, step s = .next t →
    t.trace = s.trace ∨ (s.seq = .run ∧ s.now.rstN = true ∧ ∃ e, t.trace = s.trace ++ [e])

/-- 10_state.md R23 (decision D19): RESULT is written only when a READ completes, and then it is the sign extension of
ACC, with RVALID set in the same step; engine reset apart. -/
def Obligations.ResultIsWrittenOnlyByReadCompletion : Prop :=
  ∀ s t : State, step s = .next t → s.now.rstN = true → t.result ≠ s.result →
    s.seq = .run ∧ s.upc = 756 ∧ (∃ ch, commandOf s.cmdQ = .read ch) ∧ t.result = sext24to32 s.acc ∧
    t.rvalid = true ∧ t.done = true ∧ t.busy = false ∧ t.seq = .idle

/-- 43_read_settling.md R183 (decision D1): no backward branch. While a command runs its position never decreases, and
it stays where it is only at a WAITLOW whose poll is high, at a failed access, and at completion. -/
def Obligations.PositionNeverMovesBack : Prop :=
  ∀ (i : Instr) (s t : State), s.seq = .run → exec i s = .next t →
    s.upc ≤ t.upc ∧ (t.upc = s.upc → t = s ∨ t.seq = .faulted ∨ (t.seq = .idle ∧ t.done = true))

/-! ## The datapath -/

/-- SEXT24, 41_acquisition.md R138: with the low 24 bits `u` of the operand and any upper bits `h`, the output is `u`
where bit 23 is 0 and `u - 16777216` where it is 1; the upper eight bits are ignored; the output is in the 24-bit
range, equals the operand mod 2^24 and repeats bit 23 above it; and every integer of the range is the output of
exactly one value of the 24 bits. -/
def Obligations.SignExtensionUnit : Prop :=
  (∀ (u : BitVec 24) (h : BitVec 8),
    (u.getLsbD 23 = false → (sext24to32 (h ++ u)).toInt = u.toNat) ∧
    (u.getLsbD 23 = true → (sext24to32 (h ++ u)).toInt = (u.toNat : Int) - 16777216) ∧
    -8388608 ≤ (sext24to32 (h ++ u)).toInt ∧ (sext24to32 (h ++ u)).toInt ≤ 8388607 ∧
    (sext24to32 (h ++ u)).toInt % 2 ^ 24 = (u.toNat : Int) ∧
    (∀ j < 8, (sext24to32 (h ++ u)).getLsbD (24 + j) = (sext24to32 (h ++ u)).getLsbD 23)) ∧
  ∀ r : Int, -8388608 ≤ r → r ≤ 8388607 →
    ∃ u : BitVec 24, (sext24to32 (u.setWidth 32)).toInt = r ∧
      ∀ u' : BitVec 24, (sext24to32 (u'.setWidth 32)).toInt = r → u' = u

/-- 41_acquisition.md R139 (derived there): the sample does not depend on ACC before the acquisition: what stood in
ACC[7:0] is in ACC[31:24] after 24 steps, and SEXT24 ignores it. -/
def Obligations.SampleIsIndependentOfTheOldAccumulator : Prop :=
  ∀ (acc : Word) (levels : List Level), levels.length = 24 →
    (shiftAll acc levels).extractLsb' 24 8 = acc.extractLsb' 0 8 ∧
    sext24to32 (shiftAll acc levels) = sext24to32 (shiftAll 0#32 levels)

/-! ## Invariants -/

/-- The reset state of either variant meets the invariant of the engine. -/
def Obligations.ResetMeetsTheEngineInvariant : Prop :=
  ∀ v : Variant, State.Inv { State.reset with variant := v }

/-- Every step keeps the invariant of the engine: BUSY and FAULT follow SEQ, the outcome flags agree, the position
stays inside the micro-program of a legal command, a halted engine stands at the access FAULT_CAUSE names, RESULT is
sign-extended, the select lines denote a channel of the variant outside a change, a READ past its change has its
channel selected, and CHG, DISC and PREV_CH say what CMP found (10_state.md R31 to R42, 42_channel_select.md R157). -/
def Obligations.StepKeepsTheEngineInvariant : Prop :=
  ∀ s t : State, s.Inv → step s = .next t → t.Inv

/-- In every state that meets the invariant a step has a next state: the engine never stops, a position outside a
micro-program cannot be formed (43_read_settling.md R183, 70_reset_and_hazards.md R263). -/
def Obligations.EngineNeverStopsUnderTheInvariant : Prop :=
  ∀ s : State, s.Inv → ∃ t, step s = .next t

/-- The reset state of either variant meets the sample invariant. -/
def Obligations.ResetMeetsTheSampleInvariant : Prop :=
  ∀ v : Variant, State.SampleInv { State.reset with variant := v }

/-- Every step keeps the sample invariant: ACC holds the levels sampled in the acquisition in progress, and while
RVALID = 1 RESULT is the sign extension of the last 24 levels sampled (20_memory.md R71, 43_read_settling.md R176). -/
def Obligations.StepKeepsTheSampleInvariant : Prop :=
  ∀ s t : State, s.Inv → s.SampleInv → step s = .next t → t.SampleInv

/-! ## Ports and timing -/

/-- The output ports of 10_state.md R44 and the bit order of STATUS, R30 (both decision D2). While engine reset is
released cmd_ready_o is 1 exactly when SEQ = IDLE and every other port shows its register; while it is asserted
cmd_ready_o is 0 and every port shows the reset value (70_reset_and_hazards.md R240, decision D13; that it does so at that
very instant is log 15). result_o, which has a value only while RVALID = 1, is `ResultIsReadableOnlyWhileValid`. -/
def Obligations.OutputPortsShowTheRegisters : Prop :=
  ∀ s : State,
    (s.now.rstN = true →
      (s.outputs.cmdReady = true ↔ s.seq = .idle) ∧
      s.outputs.status.getLsbD 0 = s.busy ∧ s.outputs.status.getLsbD 1 = s.done ∧
      s.outputs.status.getLsbD 2 = s.rvalid ∧ s.outputs.status.getLsbD 3 = s.rej ∧
      s.outputs.status.getLsbD 4 = s.fault ∧ s.outputs.status.getLsbD 5 = s.chg ∧
      s.outputs.status.getLsbD 6 = s.disc ∧ s.outputs.prevCh = s.prevCh ∧ s.outputs.faultCause = s.faultCause ∧
      s.outputs.sclk = s.sclkQ ∧ s.outputs.pdwn = s.pdwnQ ∧ s.outputs.sel0 = s.sel0Q ∧ s.outputs.sel1 = s.sel1Q) ∧
    (s.now.rstN = false →
      s.outputs = { cmdReady := false, status := 0#7, result := none, prevCh := 0#2, faultCause := 0#5,
                    sclk := false, pdwn := false, sel0 := false, sel1 := false })

/-- 10_state.md R33 (decision D27) and U6: the host's read of the result gives RESULT while RVALID = 1 and engine reset
is released, and is refused otherwise (log 9). While rst_n = 0 it is refused whatever RVALID was, since every register
shows its reset value then, RVALID = 0 among them (70_reset_and_hazards.md R240; log 15). -/
def Obligations.ResultIsReadableOnlyWhileValid : Prop :=
  ∀ s : State,
    (s.rvalid = true → s.now.rstN = true → s.hostReadResult = .next s.result) ∧
    (s.rvalid = false ∨ s.now.rstN = false → s.hostReadResult = .refused .resultNotValid)

/-- The delays of the four micro-programs are constants of 00_scope.md R6, and the delay timer of 60_exceptions.md R232
(decision D8), at its least width, holds the load of each of them for every clock period that is a
fraction `num / den` of nanoseconds, a load that lasts at least the delay (40_line_controller.md R114). The spec's T_CLK_NS
is a positive real; that the model's periods are fractions is its own choice (log 6). -/
def Obligations.DelaysFitTheTimer : Prop :=
  ∀ (i : Instr) (n : Nat) (op : MicroOp) (d : Nat), microProgram i n = some op → op.delayNs = some d →
    (d = 50 ∨ d = 100 ∨ d = 26000 ∨ d = 50000) ∧
    ∀ num den : Nat, 0 < num → 0 < den →
      timerLoad num den d < 2 ^ timerWidth num den ∧ d * den ≤ timerLoad num den d * num

/-- The totals of one ACQUIRE, 41_acquisition.md R136 (derived there) and the first row of 70_reset_and_hazards.md R260:
wherever READ or CALOFS plays it, with no failed access and DOUT low at its first poll (decision D9; log 7), the 150 steps
add 150 events to the trace: 25 drives high and 26 drives low of SCLK, the 24 samples of their instants, one completed
wait, 74 delays with a nominal sum of 5 000 ns, and nothing else. -/
def Obligations.TotalsOfOneAcquire : Prop :=
  ∀ (s : State) (a : Nat) (ins rest : List Inputs), s.seq = .run → a ∈ acquireStarts (commandOf s.cmdQ) → s.upc = a →
    s.env = ins ++ rest → ins.length = 150 → (∀ y ∈ ins, y.quiet) → doutAt ins 1 = false →
    ∃ (t : State) (events : List Event),
      Host.Core.run Sys2Proof.core 150 s = .next t ∧ t.trace = s.trace ++ events ∧
      events.length = 150 ∧ events.count (.drv .sclk true) = 25 ∧ events.count (.drv .sclk false) = 26 ∧
      sampledLevels events = sampleLevels ins 0 ∧ events.count .waited = 1 ∧
      events.countP Event.isDelay = 74 ∧ delaySum events = 5000

/-! ## The end of a command and of a run -/

/-- 70_reset_and_hazards.md R263 (derived there): how a command ends. While engine reset is released, a running command has
completed exactly after the step at its end index, has faulted exactly after a failed line access, and has not ended
after any other step, a poll of a WAITLOW that reads high among them; an accepted command has not ended; a rejection
ends at once. After a completion or a rejection the engine is ready for the next command. -/
def Obligations.CommandsEndAsCompletedFaultedOrRejected : Prop :=
  ∀ s t : State, step s = .next t → s.now.rstN = true →
    (s.seq = .run →
      (t.completed = true ↔ s.upc = endIndex (commandOf s.cmdQ)) ∧
      (t.halted = true ↔ s.now.lineErr = true ∧ ∃ op a, s.currentOp = some op ∧ op.access = some a) ∧
      t.rejected = false ∧
      (t.ended = true ↔ t.seq ≠ .run)) ∧
    (∀ w, s.takenWord = some w →
      (t.rejected = true ↔ (commandOf w).wellFormed s.variant = false) ∧
      (t.ended = true ↔ (commandOf w).wellFormed s.variant = false)) ∧
    (t.completed = true ∨ t.rejected = true → t.now.rstN = true → t.cmdReady = true)

/-- 70_reset_and_hazards.md R263 (derived there): a run of a command sequence that has ended well has taken its words and
no others, each of them legal (none was rejected at any of the steps, not only at the last), and its last command is
the one that has completed, with FAULT = 0; and a run in which any word taken is illegal has not ended well. That the
sequence of a run is the list of the words its steps take from the port is log 21. -/
def Obligations.RunEndsWellOnlyWithoutRejection : Prop :=
  ∀ (s : State) (k : Nat),
    (∀ words, s.endedWell k words = true →
      wordsTaken k s = words ∧ (∀ w ∈ words, (commandOf w).wellFormed s.variant = true) ∧
      ∃ t, Host.Core.run Sys2Proof.core k s = .next t ∧ t.seq = .idle ∧ t.done = true ∧ t.fault = false ∧
        words.getLast? = some t.cmdQ) ∧
    ∀ w ∈ wordsTaken k s, (commandOf w).wellFormed s.variant = false → ∀ words, s.endedWell k words = false
end

