-- ==== Sys2Proof/Laws/Datapath.lean ====
section
/-!
SUPPORT. The shift-in datapath bit by bit, and the sign-extension unit as a bit pattern.
-/

namespace Sys2Proof.Machine

/-- One shift-in step: the level in bit 0, every other bit from the place below it. -/
theorem shiftInto_getLsbD (acc : Word) (b : Level) (i : Nat) (h : i < 32) :
    (shiftInto acc b).getLsbD i = if i = 0 then b else acc.getLsbD (i - 1) := by
  cases i with
  | zero => cases b <;> simp [shiftInto, zext32]
  | succ n => cases b <;> simp [shiftInto, zext32, h, BitVec.getLsbD_eq_getElem (show n < 32 by omega)]

theorem shiftAll_append (acc : Word) (xs ys : List Level) :
    shiftAll acc (xs ++ ys) = shiftAll (shiftAll acc xs) ys := by
  simp [shiftAll, List.foldl_append]

/-- The masked operand of SEXT24 is the low 24 bits as a number. -/
theorem mask24_toNat (v : Word) : (v &&& 0x00FFFFFF#32).toNat = (v.extractLsb' 0 24).toNat := by
  have h : (0x00FFFFFF#32 : Word).toNat = 2 ^ 24 - 1 := rfl
  rw [BitVec.toNat_and, h, Nat.and_two_pow_sub_one_eq_mod]
  simp

/-- SEXT24 is the two's-complement reading of the low 24 bits. -/
theorem sext24_eq_toInt (v : Word) : sext24 v = (v.extractLsb' 0 24).toInt := by
  have hbit : (v &&& 0x00FFFFFF#32).getLsbD 23 = (v.extractLsb' 0 24).msb := by
    simp [BitVec.msb_eq_getLsbD_last]
  simp only [sext24]
  rw [hbit, mask24_toNat, BitVec.toInt_eq_msb_cond]
  cases (v.extractLsb' 0 24).msb <;> simp

/-- SEXT24 as a word repeats bit 23 above the low 24 bits (41_acquisition.md R137, "As bits"). -/
theorem sext24to32_eq_signExtend (v : Word) : sext24to32 v = (v.extractLsb' 0 24).signExtend 32 := by
  unfold sext24to32
  rw [sext24_eq_toInt, BitVec.signExtend]

end Sys2Proof.Machine
end

