-- ==== Sys2Proof/Laws/State.lean ====
section
/-!
SUPPORT. What each shared update of the state does to each field, one lemma a field, so that no proof unfolds a
record update; and that these updates leave the input ports of the instant as they are.
-/

namespace Sys2Proof.Machine

/-! `State.flagsOnAccept` -/

@[simp] theorem State.flagsOnAccept_variant (s : State) : s.flagsOnAccept.variant = s.variant := rfl
@[simp] theorem State.flagsOnAccept_sclkQ (s : State) : s.flagsOnAccept.sclkQ = s.sclkQ := rfl
@[simp] theorem State.flagsOnAccept_pdwnQ (s : State) : s.flagsOnAccept.pdwnQ = s.pdwnQ := rfl
@[simp] theorem State.flagsOnAccept_sel0Q (s : State) : s.flagsOnAccept.sel0Q = s.sel0Q := rfl
@[simp] theorem State.flagsOnAccept_sel1Q (s : State) : s.flagsOnAccept.sel1Q = s.sel1Q := rfl
@[simp] theorem State.flagsOnAccept_acc (s : State) : s.flagsOnAccept.acc = s.acc := rfl
@[simp] theorem State.flagsOnAccept_result (s : State) : s.flagsOnAccept.result = s.result := rfl
@[simp] theorem State.flagsOnAccept_cmdQ (s : State) : s.flagsOnAccept.cmdQ = s.cmdQ := rfl
@[simp] theorem State.flagsOnAccept_seq (s : State) : s.flagsOnAccept.seq = s.seq := rfl
@[simp] theorem State.flagsOnAccept_upc (s : State) : s.flagsOnAccept.upc = s.upc := rfl
@[simp] theorem State.flagsOnAccept_prevCh (s : State) : s.flagsOnAccept.prevCh = s.prevCh := rfl
@[simp] theorem State.flagsOnAccept_busy (s : State) : s.flagsOnAccept.busy = true := rfl
@[simp] theorem State.flagsOnAccept_done (s : State) : s.flagsOnAccept.done = false := rfl
@[simp] theorem State.flagsOnAccept_rvalid (s : State) : s.flagsOnAccept.rvalid = false := rfl
@[simp] theorem State.flagsOnAccept_rej (s : State) : s.flagsOnAccept.rej = false := rfl
@[simp] theorem State.flagsOnAccept_fault (s : State) : s.flagsOnAccept.fault = s.fault := rfl
@[simp] theorem State.flagsOnAccept_chg (s : State) : s.flagsOnAccept.chg = false := rfl
@[simp] theorem State.flagsOnAccept_disc (s : State) : s.flagsOnAccept.disc = false := rfl
@[simp] theorem State.flagsOnAccept_faultCause (s : State) : s.flagsOnAccept.faultCause = s.faultCause := rfl
@[simp] theorem State.flagsOnAccept_env (s : State) : s.flagsOnAccept.env = s.env := rfl
@[simp] theorem State.flagsOnAccept_draws (s : State) : s.flagsOnAccept.draws = s.draws := rfl
@[simp] theorem State.flagsOnAccept_trace (s : State) : s.flagsOnAccept.trace = s.trace := rfl
@[simp] theorem State.flagsOnAccept_now (s : State) : s.flagsOnAccept.now = s.now := rfl

/-! `State.flagsOnReject` -/

@[simp] theorem State.flagsOnReject_variant (s : State) : s.flagsOnReject.variant = s.variant := rfl
@[simp] theorem State.flagsOnReject_sclkQ (s : State) : s.flagsOnReject.sclkQ = s.sclkQ := rfl
@[simp] theorem State.flagsOnReject_pdwnQ (s : State) : s.flagsOnReject.pdwnQ = s.pdwnQ := rfl
@[simp] theorem State.flagsOnReject_sel0Q (s : State) : s.flagsOnReject.sel0Q = s.sel0Q := rfl
@[simp] theorem State.flagsOnReject_sel1Q (s : State) : s.flagsOnReject.sel1Q = s.sel1Q := rfl
@[simp] theorem State.flagsOnReject_acc (s : State) : s.flagsOnReject.acc = s.acc := rfl
@[simp] theorem State.flagsOnReject_result (s : State) : s.flagsOnReject.result = s.result := rfl
@[simp] theorem State.flagsOnReject_cmdQ (s : State) : s.flagsOnReject.cmdQ = s.cmdQ := rfl
@[simp] theorem State.flagsOnReject_seq (s : State) : s.flagsOnReject.seq = s.seq := rfl
@[simp] theorem State.flagsOnReject_upc (s : State) : s.flagsOnReject.upc = s.upc := rfl
@[simp] theorem State.flagsOnReject_prevCh (s : State) : s.flagsOnReject.prevCh = s.prevCh := rfl
@[simp] theorem State.flagsOnReject_busy (s : State) : s.flagsOnReject.busy = s.busy := rfl
@[simp] theorem State.flagsOnReject_done (s : State) : s.flagsOnReject.done = false := rfl
@[simp] theorem State.flagsOnReject_rvalid (s : State) : s.flagsOnReject.rvalid = false := rfl
@[simp] theorem State.flagsOnReject_rej (s : State) : s.flagsOnReject.rej = true := rfl
@[simp] theorem State.flagsOnReject_fault (s : State) : s.flagsOnReject.fault = s.fault := rfl
@[simp] theorem State.flagsOnReject_chg (s : State) : s.flagsOnReject.chg = false := rfl
@[simp] theorem State.flagsOnReject_disc (s : State) : s.flagsOnReject.disc = false := rfl
@[simp] theorem State.flagsOnReject_faultCause (s : State) : s.flagsOnReject.faultCause = s.faultCause := rfl
@[simp] theorem State.flagsOnReject_env (s : State) : s.flagsOnReject.env = s.env := rfl
@[simp] theorem State.flagsOnReject_draws (s : State) : s.flagsOnReject.draws = s.draws := rfl
@[simp] theorem State.flagsOnReject_trace (s : State) : s.flagsOnReject.trace = s.trace := rfl
@[simp] theorem State.flagsOnReject_now (s : State) : s.flagsOnReject.now = s.now := rfl

/-! `State.flagsOnComplete` -/

@[simp] theorem State.flagsOnComplete_variant (s : State) : s.flagsOnComplete.variant = s.variant := rfl
@[simp] theorem State.flagsOnComplete_sclkQ (s : State) : s.flagsOnComplete.sclkQ = s.sclkQ := rfl
@[simp] theorem State.flagsOnComplete_pdwnQ (s : State) : s.flagsOnComplete.pdwnQ = s.pdwnQ := rfl
@[simp] theorem State.flagsOnComplete_sel0Q (s : State) : s.flagsOnComplete.sel0Q = s.sel0Q := rfl
@[simp] theorem State.flagsOnComplete_sel1Q (s : State) : s.flagsOnComplete.sel1Q = s.sel1Q := rfl
@[simp] theorem State.flagsOnComplete_acc (s : State) : s.flagsOnComplete.acc = s.acc := rfl
@[simp] theorem State.flagsOnComplete_result (s : State) : s.flagsOnComplete.result = s.result := rfl
@[simp] theorem State.flagsOnComplete_cmdQ (s : State) : s.flagsOnComplete.cmdQ = s.cmdQ := rfl
@[simp] theorem State.flagsOnComplete_seq (s : State) : s.flagsOnComplete.seq = s.seq := rfl
@[simp] theorem State.flagsOnComplete_upc (s : State) : s.flagsOnComplete.upc = s.upc := rfl
@[simp] theorem State.flagsOnComplete_prevCh (s : State) : s.flagsOnComplete.prevCh = s.prevCh := rfl
@[simp] theorem State.flagsOnComplete_busy (s : State) : s.flagsOnComplete.busy = false := rfl
@[simp] theorem State.flagsOnComplete_done (s : State) : s.flagsOnComplete.done = true := rfl
@[simp] theorem State.flagsOnComplete_rvalid (s : State) : s.flagsOnComplete.rvalid = s.rvalid := rfl
@[simp] theorem State.flagsOnComplete_rej (s : State) : s.flagsOnComplete.rej = s.rej := rfl
@[simp] theorem State.flagsOnComplete_fault (s : State) : s.flagsOnComplete.fault = s.fault := rfl
@[simp] theorem State.flagsOnComplete_chg (s : State) : s.flagsOnComplete.chg = s.chg := rfl
@[simp] theorem State.flagsOnComplete_disc (s : State) : s.flagsOnComplete.disc = s.disc := rfl
@[simp] theorem State.flagsOnComplete_faultCause (s : State) : s.flagsOnComplete.faultCause = s.faultCause := rfl
@[simp] theorem State.flagsOnComplete_env (s : State) : s.flagsOnComplete.env = s.env := rfl
@[simp] theorem State.flagsOnComplete_draws (s : State) : s.flagsOnComplete.draws = s.draws := rfl
@[simp] theorem State.flagsOnComplete_trace (s : State) : s.flagsOnComplete.trace = s.trace := rfl
@[simp] theorem State.flagsOnComplete_now (s : State) : s.flagsOnComplete.now = s.now := rfl

/-! `State.flagsOnLineFault` -/

@[simp] theorem State.flagsOnLineFault_variant (s : State) : s.flagsOnLineFault.variant = s.variant := rfl
@[simp] theorem State.flagsOnLineFault_sclkQ (s : State) : s.flagsOnLineFault.sclkQ = s.sclkQ := rfl
@[simp] theorem State.flagsOnLineFault_pdwnQ (s : State) : s.flagsOnLineFault.pdwnQ = s.pdwnQ := rfl
@[simp] theorem State.flagsOnLineFault_sel0Q (s : State) : s.flagsOnLineFault.sel0Q = s.sel0Q := rfl
@[simp] theorem State.flagsOnLineFault_sel1Q (s : State) : s.flagsOnLineFault.sel1Q = s.sel1Q := rfl
@[simp] theorem State.flagsOnLineFault_acc (s : State) : s.flagsOnLineFault.acc = s.acc := rfl
@[simp] theorem State.flagsOnLineFault_result (s : State) : s.flagsOnLineFault.result = s.result := rfl
@[simp] theorem State.flagsOnLineFault_cmdQ (s : State) : s.flagsOnLineFault.cmdQ = s.cmdQ := rfl
@[simp] theorem State.flagsOnLineFault_seq (s : State) : s.flagsOnLineFault.seq = s.seq := rfl
@[simp] theorem State.flagsOnLineFault_upc (s : State) : s.flagsOnLineFault.upc = s.upc := rfl
@[simp] theorem State.flagsOnLineFault_prevCh (s : State) : s.flagsOnLineFault.prevCh = s.prevCh := rfl
@[simp] theorem State.flagsOnLineFault_busy (s : State) : s.flagsOnLineFault.busy = false := rfl
@[simp] theorem State.flagsOnLineFault_done (s : State) : s.flagsOnLineFault.done = s.done := rfl
@[simp] theorem State.flagsOnLineFault_rvalid (s : State) : s.flagsOnLineFault.rvalid = s.rvalid := rfl
@[simp] theorem State.flagsOnLineFault_rej (s : State) : s.flagsOnLineFault.rej = s.rej := rfl
@[simp] theorem State.flagsOnLineFault_fault (s : State) : s.flagsOnLineFault.fault = true := rfl
@[simp] theorem State.flagsOnLineFault_chg (s : State) : s.flagsOnLineFault.chg = s.chg := rfl
@[simp] theorem State.flagsOnLineFault_disc (s : State) : s.flagsOnLineFault.disc = s.disc := rfl
@[simp] theorem State.flagsOnLineFault_faultCause (s : State) : s.flagsOnLineFault.faultCause = s.faultCause := rfl
@[simp] theorem State.flagsOnLineFault_env (s : State) : s.flagsOnLineFault.env = s.env := rfl
@[simp] theorem State.flagsOnLineFault_draws (s : State) : s.flagsOnLineFault.draws = s.draws := rfl
@[simp] theorem State.flagsOnLineFault_trace (s : State) : s.flagsOnLineFault.trace = s.trace := rfl
@[simp] theorem State.flagsOnLineFault_now (s : State) : s.flagsOnLineFault.now = s.now := rfl

/-! `State.flagsOnCompare` -/

@[simp] theorem State.flagsOnCompare_variant (s : State) (c d : Bool) : (s.flagsOnCompare c d).variant = s.variant := rfl
@[simp] theorem State.flagsOnCompare_sclkQ (s : State) (c d : Bool) : (s.flagsOnCompare c d).sclkQ = s.sclkQ := rfl
@[simp] theorem State.flagsOnCompare_pdwnQ (s : State) (c d : Bool) : (s.flagsOnCompare c d).pdwnQ = s.pdwnQ := rfl
@[simp] theorem State.flagsOnCompare_sel0Q (s : State) (c d : Bool) : (s.flagsOnCompare c d).sel0Q = s.sel0Q := rfl
@[simp] theorem State.flagsOnCompare_sel1Q (s : State) (c d : Bool) : (s.flagsOnCompare c d).sel1Q = s.sel1Q := rfl
@[simp] theorem State.flagsOnCompare_acc (s : State) (c d : Bool) : (s.flagsOnCompare c d).acc = s.acc := rfl
@[simp] theorem State.flagsOnCompare_result (s : State) (c d : Bool) : (s.flagsOnCompare c d).result = s.result := rfl
@[simp] theorem State.flagsOnCompare_cmdQ (s : State) (c d : Bool) : (s.flagsOnCompare c d).cmdQ = s.cmdQ := rfl
@[simp] theorem State.flagsOnCompare_seq (s : State) (c d : Bool) : (s.flagsOnCompare c d).seq = s.seq := rfl
@[simp] theorem State.flagsOnCompare_upc (s : State) (c d : Bool) : (s.flagsOnCompare c d).upc = s.upc := rfl
@[simp] theorem State.flagsOnCompare_prevCh (s : State) (c d : Bool) : (s.flagsOnCompare c d).prevCh = s.prevCh := rfl
@[simp] theorem State.flagsOnCompare_busy (s : State) (c d : Bool) : (s.flagsOnCompare c d).busy = s.busy := rfl
@[simp] theorem State.flagsOnCompare_done (s : State) (c d : Bool) : (s.flagsOnCompare c d).done = s.done := rfl
@[simp] theorem State.flagsOnCompare_rvalid (s : State) (c d : Bool) : (s.flagsOnCompare c d).rvalid = s.rvalid := rfl
@[simp] theorem State.flagsOnCompare_rej (s : State) (c d : Bool) : (s.flagsOnCompare c d).rej = s.rej := rfl
@[simp] theorem State.flagsOnCompare_fault (s : State) (c d : Bool) : (s.flagsOnCompare c d).fault = s.fault := rfl
@[simp] theorem State.flagsOnCompare_chg (s : State) (c d : Bool) : (s.flagsOnCompare c d).chg = c := rfl
@[simp] theorem State.flagsOnCompare_disc (s : State) (c d : Bool) : (s.flagsOnCompare c d).disc = (c && d) := rfl
@[simp] theorem State.flagsOnCompare_faultCause (s : State) (c d : Bool) : (s.flagsOnCompare c d).faultCause = s.faultCause := rfl
@[simp] theorem State.flagsOnCompare_env (s : State) (c d : Bool) : (s.flagsOnCompare c d).env = s.env := rfl
@[simp] theorem State.flagsOnCompare_draws (s : State) (c d : Bool) : (s.flagsOnCompare c d).draws = s.draws := rfl
@[simp] theorem State.flagsOnCompare_trace (s : State) (c d : Bool) : (s.flagsOnCompare c d).trace = s.trace := rfl
@[simp] theorem State.flagsOnCompare_now (s : State) (c d : Bool) : (s.flagsOnCompare c d).now = s.now := rfl

/-! `State.emit` -/

@[simp] theorem State.emit_variant (s : State) (e : Event) : (s.emit e).variant = s.variant := rfl
@[simp] theorem State.emit_sclkQ (s : State) (e : Event) : (s.emit e).sclkQ = s.sclkQ := rfl
@[simp] theorem State.emit_pdwnQ (s : State) (e : Event) : (s.emit e).pdwnQ = s.pdwnQ := rfl
@[simp] theorem State.emit_sel0Q (s : State) (e : Event) : (s.emit e).sel0Q = s.sel0Q := rfl
@[simp] theorem State.emit_sel1Q (s : State) (e : Event) : (s.emit e).sel1Q = s.sel1Q := rfl
@[simp] theorem State.emit_acc (s : State) (e : Event) : (s.emit e).acc = s.acc := rfl
@[simp] theorem State.emit_result (s : State) (e : Event) : (s.emit e).result = s.result := rfl
@[simp] theorem State.emit_cmdQ (s : State) (e : Event) : (s.emit e).cmdQ = s.cmdQ := rfl
@[simp] theorem State.emit_seq (s : State) (e : Event) : (s.emit e).seq = s.seq := rfl
@[simp] theorem State.emit_upc (s : State) (e : Event) : (s.emit e).upc = s.upc := rfl
@[simp] theorem State.emit_prevCh (s : State) (e : Event) : (s.emit e).prevCh = s.prevCh := rfl
@[simp] theorem State.emit_busy (s : State) (e : Event) : (s.emit e).busy = s.busy := rfl
@[simp] theorem State.emit_done (s : State) (e : Event) : (s.emit e).done = s.done := rfl
@[simp] theorem State.emit_rvalid (s : State) (e : Event) : (s.emit e).rvalid = s.rvalid := rfl
@[simp] theorem State.emit_rej (s : State) (e : Event) : (s.emit e).rej = s.rej := rfl
@[simp] theorem State.emit_fault (s : State) (e : Event) : (s.emit e).fault = s.fault := rfl
@[simp] theorem State.emit_chg (s : State) (e : Event) : (s.emit e).chg = s.chg := rfl
@[simp] theorem State.emit_disc (s : State) (e : Event) : (s.emit e).disc = s.disc := rfl
@[simp] theorem State.emit_faultCause (s : State) (e : Event) : (s.emit e).faultCause = s.faultCause := rfl
@[simp] theorem State.emit_env (s : State) (e : Event) : (s.emit e).env = s.env := rfl
@[simp] theorem State.emit_draws (s : State) (e : Event) : (s.emit e).draws = s.draws := rfl
@[simp] theorem State.emit_trace (s : State) (e : Event) : (s.emit e).trace = s.trace ++ [e] := rfl
@[simp] theorem State.emit_now (s : State) (e : Event) : (s.emit e).now = s.now := rfl

/-! `State.nextUpc` -/

@[simp] theorem State.nextUpc_variant (s : State) : s.nextUpc.variant = s.variant := rfl
@[simp] theorem State.nextUpc_sclkQ (s : State) : s.nextUpc.sclkQ = s.sclkQ := rfl
@[simp] theorem State.nextUpc_pdwnQ (s : State) : s.nextUpc.pdwnQ = s.pdwnQ := rfl
@[simp] theorem State.nextUpc_sel0Q (s : State) : s.nextUpc.sel0Q = s.sel0Q := rfl
@[simp] theorem State.nextUpc_sel1Q (s : State) : s.nextUpc.sel1Q = s.sel1Q := rfl
@[simp] theorem State.nextUpc_acc (s : State) : s.nextUpc.acc = s.acc := rfl
@[simp] theorem State.nextUpc_result (s : State) : s.nextUpc.result = s.result := rfl
@[simp] theorem State.nextUpc_cmdQ (s : State) : s.nextUpc.cmdQ = s.cmdQ := rfl
@[simp] theorem State.nextUpc_seq (s : State) : s.nextUpc.seq = s.seq := rfl
@[simp] theorem State.nextUpc_upc (s : State) : s.nextUpc.upc = s.upc + 1 := rfl
@[simp] theorem State.nextUpc_prevCh (s : State) : s.nextUpc.prevCh = s.prevCh := rfl
@[simp] theorem State.nextUpc_busy (s : State) : s.nextUpc.busy = s.busy := rfl
@[simp] theorem State.nextUpc_done (s : State) : s.nextUpc.done = s.done := rfl
@[simp] theorem State.nextUpc_rvalid (s : State) : s.nextUpc.rvalid = s.rvalid := rfl
@[simp] theorem State.nextUpc_rej (s : State) : s.nextUpc.rej = s.rej := rfl
@[simp] theorem State.nextUpc_fault (s : State) : s.nextUpc.fault = s.fault := rfl
@[simp] theorem State.nextUpc_chg (s : State) : s.nextUpc.chg = s.chg := rfl
@[simp] theorem State.nextUpc_disc (s : State) : s.nextUpc.disc = s.disc := rfl
@[simp] theorem State.nextUpc_faultCause (s : State) : s.nextUpc.faultCause = s.faultCause := rfl
@[simp] theorem State.nextUpc_env (s : State) : s.nextUpc.env = s.env := rfl
@[simp] theorem State.nextUpc_draws (s : State) : s.nextUpc.draws = s.draws := rfl
@[simp] theorem State.nextUpc_trace (s : State) : s.nextUpc.trace = s.trace := rfl
@[simp] theorem State.nextUpc_now (s : State) : s.nextUpc.now = s.now := rfl

/-! `State.takeLineFault` -/

@[simp] theorem State.takeLineFault_variant (s : State) (l : Line) (k : AccessKind) : (s.takeLineFault l k).variant = s.variant := rfl
@[simp] theorem State.takeLineFault_sclkQ (s : State) (l : Line) (k : AccessKind) : (s.takeLineFault l k).sclkQ = s.sclkQ := rfl
@[simp] theorem State.takeLineFault_pdwnQ (s : State) (l : Line) (k : AccessKind) : (s.takeLineFault l k).pdwnQ = s.pdwnQ := rfl
@[simp] theorem State.takeLineFault_sel0Q (s : State) (l : Line) (k : AccessKind) : (s.takeLineFault l k).sel0Q = s.sel0Q := rfl
@[simp] theorem State.takeLineFault_sel1Q (s : State) (l : Line) (k : AccessKind) : (s.takeLineFault l k).sel1Q = s.sel1Q := rfl
@[simp] theorem State.takeLineFault_acc (s : State) (l : Line) (k : AccessKind) : (s.takeLineFault l k).acc = s.acc := rfl
@[simp] theorem State.takeLineFault_result (s : State) (l : Line) (k : AccessKind) : (s.takeLineFault l k).result = s.result := rfl
@[simp] theorem State.takeLineFault_cmdQ (s : State) (l : Line) (k : AccessKind) : (s.takeLineFault l k).cmdQ = s.cmdQ := rfl
@[simp] theorem State.takeLineFault_seq (s : State) (l : Line) (k : AccessKind) : (s.takeLineFault l k).seq = .faulted := rfl
@[simp] theorem State.takeLineFault_upc (s : State) (l : Line) (k : AccessKind) : (s.takeLineFault l k).upc = s.upc := rfl
@[simp] theorem State.takeLineFault_prevCh (s : State) (l : Line) (k : AccessKind) : (s.takeLineFault l k).prevCh = s.prevCh := rfl
@[simp] theorem State.takeLineFault_busy (s : State) (l : Line) (k : AccessKind) : (s.takeLineFault l k).busy = false := rfl
@[simp] theorem State.takeLineFault_done (s : State) (l : Line) (k : AccessKind) : (s.takeLineFault l k).done = s.done := rfl
@[simp] theorem State.takeLineFault_rvalid (s : State) (l : Line) (k : AccessKind) : (s.takeLineFault l k).rvalid = s.rvalid := rfl
@[simp] theorem State.takeLineFault_rej (s : State) (l : Line) (k : AccessKind) : (s.takeLineFault l k).rej = s.rej := rfl
@[simp] theorem State.takeLineFault_fault (s : State) (l : Line) (k : AccessKind) : (s.takeLineFault l k).fault = true := rfl
@[simp] theorem State.takeLineFault_chg (s : State) (l : Line) (k : AccessKind) : (s.takeLineFault l k).chg = s.chg := rfl
@[simp] theorem State.takeLineFault_disc (s : State) (l : Line) (k : AccessKind) : (s.takeLineFault l k).disc = s.disc := rfl
@[simp] theorem State.takeLineFault_faultCause (s : State) (l : Line) (k : AccessKind) : (s.takeLineFault l k).faultCause = causeOf l k := rfl
@[simp] theorem State.takeLineFault_env (s : State) (l : Line) (k : AccessKind) : (s.takeLineFault l k).env = s.env := rfl
@[simp] theorem State.takeLineFault_draws (s : State) (l : Line) (k : AccessKind) : (s.takeLineFault l k).draws = s.draws := rfl
@[simp] theorem State.takeLineFault_trace (s : State) (l : Line) (k : AccessKind) : (s.takeLineFault l k).trace = s.trace ++ [.lineFault l k] := rfl
@[simp] theorem State.takeLineFault_now (s : State) (l : Line) (k : AccessKind) : (s.takeLineFault l k).now = s.now := rfl

/-! `State.accept` -/

@[simp] theorem State.accept_variant (s : State) (w : Cmd) : (s.accept w).variant = s.variant := rfl
@[simp] theorem State.accept_sclkQ (s : State) (w : Cmd) : (s.accept w).sclkQ = s.sclkQ := rfl
@[simp] theorem State.accept_pdwnQ (s : State) (w : Cmd) : (s.accept w).pdwnQ = s.pdwnQ := rfl
@[simp] theorem State.accept_sel0Q (s : State) (w : Cmd) : (s.accept w).sel0Q = s.sel0Q := rfl
@[simp] theorem State.accept_sel1Q (s : State) (w : Cmd) : (s.accept w).sel1Q = s.sel1Q := rfl
@[simp] theorem State.accept_acc (s : State) (w : Cmd) : (s.accept w).acc = s.acc := rfl
@[simp] theorem State.accept_result (s : State) (w : Cmd) : (s.accept w).result = s.result := rfl
@[simp] theorem State.accept_cmdQ (s : State) (w : Cmd) : (s.accept w).cmdQ = w := rfl
@[simp] theorem State.accept_seq (s : State) (w : Cmd) : (s.accept w).seq = .run := rfl
@[simp] theorem State.accept_upc (s : State) (w : Cmd) : (s.accept w).upc = 0 := rfl
@[simp] theorem State.accept_prevCh (s : State) (w : Cmd) : (s.accept w).prevCh = s.prevCh := rfl
@[simp] theorem State.accept_busy (s : State) (w : Cmd) : (s.accept w).busy = true := rfl
@[simp] theorem State.accept_done (s : State) (w : Cmd) : (s.accept w).done = false := rfl
@[simp] theorem State.accept_rvalid (s : State) (w : Cmd) : (s.accept w).rvalid = false := rfl
@[simp] theorem State.accept_rej (s : State) (w : Cmd) : (s.accept w).rej = false := rfl
@[simp] theorem State.accept_fault (s : State) (w : Cmd) : (s.accept w).fault = s.fault := rfl
@[simp] theorem State.accept_chg (s : State) (w : Cmd) : (s.accept w).chg = false := rfl
@[simp] theorem State.accept_disc (s : State) (w : Cmd) : (s.accept w).disc = false := rfl
@[simp] theorem State.accept_faultCause (s : State) (w : Cmd) : (s.accept w).faultCause = s.faultCause := rfl
@[simp] theorem State.accept_env (s : State) (w : Cmd) : (s.accept w).env = s.env := rfl
@[simp] theorem State.accept_draws (s : State) (w : Cmd) : (s.accept w).draws = s.draws := rfl
@[simp] theorem State.accept_trace (s : State) (w : Cmd) : (s.accept w).trace = s.trace := rfl
@[simp] theorem State.accept_now (s : State) (w : Cmd) : (s.accept w).now = s.now := rfl

/-! `State.reject` -/

@[simp] theorem State.reject_variant (s : State) : s.reject.variant = s.variant := rfl
@[simp] theorem State.reject_sclkQ (s : State) : s.reject.sclkQ = s.sclkQ := rfl
@[simp] theorem State.reject_pdwnQ (s : State) : s.reject.pdwnQ = s.pdwnQ := rfl
@[simp] theorem State.reject_sel0Q (s : State) : s.reject.sel0Q = s.sel0Q := rfl
@[simp] theorem State.reject_sel1Q (s : State) : s.reject.sel1Q = s.sel1Q := rfl
@[simp] theorem State.reject_acc (s : State) : s.reject.acc = s.acc := rfl
@[simp] theorem State.reject_result (s : State) : s.reject.result = s.result := rfl
@[simp] theorem State.reject_cmdQ (s : State) : s.reject.cmdQ = s.cmdQ := rfl
@[simp] theorem State.reject_seq (s : State) : s.reject.seq = s.seq := rfl
@[simp] theorem State.reject_upc (s : State) : s.reject.upc = s.upc := rfl
@[simp] theorem State.reject_prevCh (s : State) : s.reject.prevCh = s.prevCh := rfl
@[simp] theorem State.reject_busy (s : State) : s.reject.busy = s.busy := rfl
@[simp] theorem State.reject_done (s : State) : s.reject.done = false := rfl
@[simp] theorem State.reject_rvalid (s : State) : s.reject.rvalid = false := rfl
@[simp] theorem State.reject_rej (s : State) : s.reject.rej = true := rfl
@[simp] theorem State.reject_fault (s : State) : s.reject.fault = s.fault := rfl
@[simp] theorem State.reject_chg (s : State) : s.reject.chg = false := rfl
@[simp] theorem State.reject_disc (s : State) : s.reject.disc = false := rfl
@[simp] theorem State.reject_faultCause (s : State) : s.reject.faultCause = s.faultCause := rfl
@[simp] theorem State.reject_env (s : State) : s.reject.env = s.env := rfl
@[simp] theorem State.reject_draws (s : State) : s.reject.draws = s.draws := rfl
@[simp] theorem State.reject_trace (s : State) : s.reject.trace = s.trace := rfl
@[simp] theorem State.reject_now (s : State) : s.reject.now = s.now := rfl

/-! `State.setLineReg` -/

@[simp] theorem State.setLineReg_variant (s : State) (l : OutLine) (v : Level) :
    (s.setLineReg l v).variant = s.variant := by
  cases l <;> rfl
@[simp] theorem State.setLineReg_sclkQ (s : State) (l : OutLine) (v : Level) :
    (s.setLineReg l v).sclkQ = if l = .sclk then v else s.sclkQ := by
  cases l <;> rfl
@[simp] theorem State.setLineReg_pdwnQ (s : State) (l : OutLine) (v : Level) :
    (s.setLineReg l v).pdwnQ = if l = .pdwn then v else s.pdwnQ := by
  cases l <;> rfl
@[simp] theorem State.setLineReg_sel0Q (s : State) (l : OutLine) (v : Level) :
    (s.setLineReg l v).sel0Q = if l = .sel0 then v else s.sel0Q := by
  cases l <;> rfl
@[simp] theorem State.setLineReg_sel1Q (s : State) (l : OutLine) (v : Level) :
    (s.setLineReg l v).sel1Q = if l = .sel1 then v else s.sel1Q := by
  cases l <;> rfl
@[simp] theorem State.setLineReg_acc (s : State) (l : OutLine) (v : Level) :
    (s.setLineReg l v).acc = s.acc := by
  cases l <;> rfl
@[simp] theorem State.setLineReg_result (s : State) (l : OutLine) (v : Level) :
    (s.setLineReg l v).result = s.result := by
  cases l <;> rfl
@[simp] theorem State.setLineReg_cmdQ (s : State) (l : OutLine) (v : Level) :
    (s.setLineReg l v).cmdQ = s.cmdQ := by
  cases l <;> rfl
@[simp] theorem State.setLineReg_seq (s : State) (l : OutLine) (v : Level) :
    (s.setLineReg l v).seq = s.seq := by
  cases l <;> rfl
@[simp] theorem State.setLineReg_upc (s : State) (l : OutLine) (v : Level) :
    (s.setLineReg l v).upc = s.upc := by
  cases l <;> rfl
@[simp] theorem State.setLineReg_prevCh (s : State) (l : OutLine) (v : Level) :
    (s.setLineReg l v).prevCh = s.prevCh := by
  cases l <;> rfl
@[simp] theorem State.setLineReg_busy (s : State) (l : OutLine) (v : Level) :
    (s.setLineReg l v).busy = s.busy := by
  cases l <;> rfl
@[simp] theorem State.setLineReg_done (s : State) (l : OutLine) (v : Level) :
    (s.setLineReg l v).done = s.done := by
  cases l <;> rfl
@[simp] theorem State.setLineReg_rvalid (s : State) (l : OutLine) (v : Level) :
    (s.setLineReg l v).rvalid = s.rvalid := by
  cases l <;> rfl
@[simp] theorem State.setLineReg_rej (s : State) (l : OutLine) (v : Level) :
    (s.setLineReg l v).rej = s.rej := by
  cases l <;> rfl
@[simp] theorem State.setLineReg_fault (s : State) (l : OutLine) (v : Level) :
    (s.setLineReg l v).fault = s.fault := by
  cases l <;> rfl
@[simp] theorem State.setLineReg_chg (s : State) (l : OutLine) (v : Level) :
    (s.setLineReg l v).chg = s.chg := by
  cases l <;> rfl
@[simp] theorem State.setLineReg_disc (s : State) (l : OutLine) (v : Level) :
    (s.setLineReg l v).disc = s.disc := by
  cases l <;> rfl
@[simp] theorem State.setLineReg_faultCause (s : State) (l : OutLine) (v : Level) :
    (s.setLineReg l v).faultCause = s.faultCause := by
  cases l <;> rfl
@[simp] theorem State.setLineReg_env (s : State) (l : OutLine) (v : Level) :
    (s.setLineReg l v).env = s.env := by
  cases l <;> rfl
@[simp] theorem State.setLineReg_draws (s : State) (l : OutLine) (v : Level) :
    (s.setLineReg l v).draws = s.draws := by
  cases l <;> rfl
@[simp] theorem State.setLineReg_trace (s : State) (l : OutLine) (v : Level) :
    (s.setLineReg l v).trace = s.trace := by
  cases l <;> rfl
@[simp] theorem State.setLineReg_now (s : State) (l : OutLine) (v : Level) :
    (s.setLineReg l v).now = s.now := by
  cases l <;> rfl

/-! `State.advance` -/

@[simp] theorem State.advance_variant (s : State) : s.advance.variant = s.variant := rfl
@[simp] theorem State.advance_sclkQ (s : State) : s.advance.sclkQ = s.sclkQ := rfl
@[simp] theorem State.advance_pdwnQ (s : State) : s.advance.pdwnQ = s.pdwnQ := rfl
@[simp] theorem State.advance_sel0Q (s : State) : s.advance.sel0Q = s.sel0Q := rfl
@[simp] theorem State.advance_sel1Q (s : State) : s.advance.sel1Q = s.sel1Q := rfl
@[simp] theorem State.advance_acc (s : State) : s.advance.acc = s.acc := rfl
@[simp] theorem State.advance_result (s : State) : s.advance.result = s.result := rfl
@[simp] theorem State.advance_cmdQ (s : State) : s.advance.cmdQ = s.cmdQ := rfl
@[simp] theorem State.advance_seq (s : State) : s.advance.seq = s.seq := rfl
@[simp] theorem State.advance_upc (s : State) : s.advance.upc = s.upc := rfl
@[simp] theorem State.advance_prevCh (s : State) : s.advance.prevCh = s.prevCh := rfl
@[simp] theorem State.advance_busy (s : State) : s.advance.busy = s.busy := rfl
@[simp] theorem State.advance_done (s : State) : s.advance.done = s.done := rfl
@[simp] theorem State.advance_rvalid (s : State) : s.advance.rvalid = s.rvalid := rfl
@[simp] theorem State.advance_rej (s : State) : s.advance.rej = s.rej := rfl
@[simp] theorem State.advance_fault (s : State) : s.advance.fault = s.fault := rfl
@[simp] theorem State.advance_chg (s : State) : s.advance.chg = s.chg := rfl
@[simp] theorem State.advance_disc (s : State) : s.advance.disc = s.disc := rfl
@[simp] theorem State.advance_faultCause (s : State) : s.advance.faultCause = s.faultCause := rfl
@[simp] theorem State.advance_trace (s : State) : s.advance.trace = s.trace := rfl

theorem State.advance_of_cons (s : State) (x : Inputs) (rest : List Inputs) (h : s.env = x :: rest) :
    s.advance = { s with env := rest } := by
  simp [State.advance, h]

theorem State.now_of_cons (s : State) (x : Inputs) (rest : List Inputs) (h : s.env = x :: rest) :
    s.now = x := by
  simp [State.now, h]

/-! `State.engineReset` -/

@[simp] theorem State.engineReset_variant (s : State) : s.engineReset.variant = s.variant := rfl
@[simp] theorem State.engineReset_sclkQ (s : State) : s.engineReset.sclkQ = State.reset.sclkQ := rfl
@[simp] theorem State.engineReset_pdwnQ (s : State) : s.engineReset.pdwnQ = State.reset.pdwnQ := rfl
@[simp] theorem State.engineReset_sel0Q (s : State) : s.engineReset.sel0Q = State.reset.sel0Q := rfl
@[simp] theorem State.engineReset_sel1Q (s : State) : s.engineReset.sel1Q = State.reset.sel1Q := rfl
@[simp] theorem State.engineReset_acc (s : State) : s.engineReset.acc = State.reset.acc := rfl
@[simp] theorem State.engineReset_result (s : State) : s.engineReset.result = State.reset.result := rfl
@[simp] theorem State.engineReset_cmdQ (s : State) : s.engineReset.cmdQ = State.reset.cmdQ := rfl
@[simp] theorem State.engineReset_seq (s : State) : s.engineReset.seq = State.reset.seq := rfl
@[simp] theorem State.engineReset_upc (s : State) : s.engineReset.upc = State.reset.upc := rfl
@[simp] theorem State.engineReset_prevCh (s : State) : s.engineReset.prevCh = State.reset.prevCh := rfl
@[simp] theorem State.engineReset_busy (s : State) : s.engineReset.busy = State.reset.busy := rfl
@[simp] theorem State.engineReset_done (s : State) : s.engineReset.done = State.reset.done := rfl
@[simp] theorem State.engineReset_rvalid (s : State) : s.engineReset.rvalid = State.reset.rvalid := rfl
@[simp] theorem State.engineReset_rej (s : State) : s.engineReset.rej = State.reset.rej := rfl
@[simp] theorem State.engineReset_fault (s : State) : s.engineReset.fault = State.reset.fault := rfl
@[simp] theorem State.engineReset_chg (s : State) : s.engineReset.chg = State.reset.chg := rfl
@[simp] theorem State.engineReset_disc (s : State) : s.engineReset.disc = State.reset.disc := rfl
@[simp] theorem State.engineReset_faultCause (s : State) : s.engineReset.faultCause = State.reset.faultCause := rfl
@[simp] theorem State.engineReset_env (s : State) : s.engineReset.env = s.env := rfl
@[simp] theorem State.engineReset_draws (s : State) : s.engineReset.draws = s.draws := rfl
@[simp] theorem State.engineReset_trace (s : State) : s.engineReset.trace = s.trace := rfl

end Sys2Proof.Machine
end

