-- ==== Sys2Proof/Laws/Ops.lean ====
section
/-!
SUPPORT. For each shared operation, everything it can do, said once.
-/

namespace Sys2Proof.Machine

/-! ## The micro-operations on the lines -/

theorem drive_cases (l : OutLine) (v : Level) (s : State) :
    (s.now.lineErr = true ∧ drive l v s = s.takeLineFault l.line .drv) ∨
    (s.now.lineErr = false ∧ drive l v s = ((s.setLineReg l v).emit (.drv l v)).nextUpc) := by
  unfold drive
  cases s.now.lineErr <;> simp

theorem query_cases (l : SelLine) (s : State) :
    (s.now.lineErr = true ∧ query l s = s.takeLineFault l.line .qry) ∨
    (s.now.lineErr = false ∧ query l s = (s.emit (.qry l (s.lastDriven l))).nextUpc) := by
  unfold query
  cases s.now.lineErr <;> simp

theorem startAcquire_cases (s : State) :
    (s.now.lineErr = true ∧ startAcquire s = s.takeLineFault .sclk .drv) ∨
    (s.now.lineErr = false ∧ startAcquire s =
      { ((s.setLineReg .sclk false).emit (.drv .sclk false)).nextUpc with acc := 0#32 }) := by
  unfold startAcquire
  cases s.now.lineErr <;> simp

theorem waitLow_cases (s : State) :
    (s.now.lineErr = true ∧ waitLow s = s.takeLineFault .dout .smp) ∨
    (s.now.lineErr = false ∧ s.now.dout = false ∧ waitLow s = (s.emit .waited).nextUpc) ∨
    (s.now.lineErr = false ∧ s.now.dout = true ∧ waitLow s = s) := by
  unfold waitLow State.sample
  cases s.now.lineErr <;> cases s.now.dout <;> simp

theorem shiftIn_cases (s : State) :
    (s.now.lineErr = true ∧ shiftIn s = s.takeLineFault .dout .smp) ∨
    (s.now.lineErr = false ∧ shiftIn s =
      { (s.emit (.smp s.now.dout)).nextUpc with acc := shiftInto s.acc s.now.dout }) := by
  unfold shiftIn State.sample
  cases s.now.lineErr <;> simp

/-! ## The internal micro-operations -/

theorem compareChannel_cases (ch : ChCode) (s : State) :
    (s.selectedChannel = ch ∧ compareChannel ch s =
      { s with prevCh := ch, chg := false, disc := false, upc := lastAcquire }) ∨
    (s.selectedChannel ≠ ch ∧ compareChannel ch s =
      { s with
        prevCh := s.selectedChannel, chg := true, disc := crossing s.variant s.selectedChannel ch, upc := 3 }) := by
  by_cases h : s.selectedChannel = ch
  · left; simp [compareChannel, State.flagsOnCompare, h]
  · right; simp [compareChannel, State.flagsOnCompare, h]

theorem settle_cases (s : State) :
    (s.disc = true ∧ settle s = { s.emit (.dly tSettle) with upc := 6 }) ∨
    (s.disc = false ∧ settle s = { s.emit (.dly tSettle) with upc := lastAcquire }) := by
  unfold settle
  cases s.disc <;> simp

/-! ## The command port and the sequencer -/

theorem present_cases (s : State) (i : Instr) :
    (i.wellFormed s.variant = true ∧ s.present i = s.accept (encode i)) ∨
    (i.wellFormed s.variant = false ∧ s.present i = s.reject) := by
  unfold State.present
  cases i.wellFormed s.variant <;> simp

theorem commandStep_cases (i : Instr) (program : Nat → Option MicroOp) (s t : State)
    (h : commandStep i program s = .next t) :
    (s.seq = .idle ∧ t = s.present i) ∨
    (s.seq = .run ∧ ∃ op, program s.upc = some op ∧ t = microStep op s) ∨
    (s.seq = .faulted ∧ t = s) := by
  unfold commandStep at h
  cases hs : s.seq with
  | idle => simp_all
  | faulted => simp_all
  | run =>
    cases hp : program s.upc with
    | none => simp [hs, hp] at h
    | some op => simp [hs, hp] at h; exact .inr (.inl ⟨rfl, op, rfl, h.symm⟩)

theorem commandStep_of_run (i : Instr) (program : Nat → Option MicroOp) (s : State) (op : MicroOp)
    (hs : s.seq = .run) (hp : program s.upc = some op) :
    commandStep i program s = .next (microStep op s) := by
  simp [commandStep, hs, hp]

end Sys2Proof.Machine
end

