-- ==== Sys2Proof/Laws/PerInstr.lean ====
section
/-!
SUPPORT. Statements made per command. `EncodedFields`: the encoder puts the command's opcode in the OP field and its
channel field in the CH field, and the OP field alone names the command again (30_encoding.md R90, R91).
-/

namespace Sys2Proof.Laws.EncodedFields

def Statement (i : Instr) : Prop :=
  opField (encode i) = i.opcode ∧ chField (encode i) = i.channelField ∧ commandOf (encode i) = i

theorem reset (ch : ChCode) : Statement (.reset ch) := by
  unfold Statement; revert ch; decide

theorem calofs (ch : ChCode) : Statement (.calofs ch) := by
  unfold Statement; revert ch; decide

theorem standby (ch : ChCode) : Statement (.standby ch) := by
  unfold Statement; revert ch; decide

theorem read (ch : ChCode) : Statement (.read ch) := by
  unfold Statement; revert ch; decide

end Sys2Proof.Laws.EncodedFields
end

