-- ==== Sys2Proof/Laws/Programs.lean ====
section
/-!
SUPPORT. The micro-programs: what stands where, and where they end.
-/

namespace Sys2Proof.Machine

/-- Every command's meaning is the sequencer on the command's micro-program. -/
theorem exec_eq_commandStep (i : Instr) (s : State) : exec i s = commandStep i (microProgram i) s := by
  cases i <;> rfl

theorem exec_of_run (i : Instr) (s : State) (op : MicroOp) (hs : s.seq = .run)
    (hp : microProgram i s.upc = some op) : exec i s = .next (microStep op s) := by
  rw [exec_eq_commandStep]; exact commandStep_of_run i _ s op hs hp

theorem exec_of_idle (i : Instr) (s : State) (hs : s.seq = .idle) : exec i s = .next (s.present i) := by
  rw [exec_eq_commandStep]; simp [commandStep, hs]

theorem exec_of_faulted (i : Instr) (s : State) (hs : s.seq = .faulted) : exec i s = .next s := by
  rw [exec_eq_commandStep]; simp [commandStep, hs]

/-- Whatever stands before ACQUIRE in READ, offset `n` of the acquisition `j` is offset `n` of ACQUIRE. -/
theorem readProgram_acquire (ch : ChCode) (j n : Nat) (hj : j < 5) (hn : n < 150) :
    readProgram ch (6 + 150 * j + n) = some (acquireOp n) := by
  have hm : (6 + 150 * j + n - 6) % 150 = n := by omega
  unfold readProgram
  rw [if_neg (by omega), if_neg (by omega), if_neg (by omega), if_neg (by omega), if_neg (by omega),
    if_neg (by omega), if_pos (by omega), hm]

theorem calofsProgram_acquire (n : Nat) (hn : n < 150) : calofsProgram n = some (acquireOp n) := by
  simp [calofsProgram, hn]

/-- Where a command plays ACQUIRE, its micro-program is ACQUIRE's. -/
theorem microProgram_acquire (i : Instr) (a n : Nat) (ha : a ∈ acquireStarts i) (hn : n < 150) :
    microProgram i (a + n) = some (acquireOp n) := by
  cases i with
  | reset ch => simp [acquireStarts] at ha
  | standby ch => simp [acquireStarts] at ha
  | calofs ch =>
    simp only [acquireStarts, List.mem_singleton] at ha
    subst ha
    simpa [microProgram] using calofsProgram_acquire n hn
  | read ch =>
    have h : ∃ j, j < 5 ∧ a = 6 + 150 * j := by
      simp only [acquireStarts, List.mem_cons, List.not_mem_nil, or_false] at ha
      rcases ha with rfl | rfl | rfl | rfl | rfl
      · exact ⟨0, by decide⟩
      · exact ⟨1, by decide⟩
      · exact ⟨2, by decide⟩
      · exact ⟨3, by decide⟩
      · exact ⟨4, by decide⟩
    obtain ⟨j, hj, rfl⟩ := h
    exact readProgram_acquire ch j n hj hn

/-- The micro-operation at place `p` of data pulse `k`. -/
theorem acquireOp_pulse (k p : Nat) (hk : k < 24) (hp : p < 6) : acquireOp (2 + 6 * k + p) = pulseOp p := by
  have hm : (2 + 6 * k + p - 2) % 6 = p := by omega
  unfold acquireOp
  rw [if_neg (by omega), if_neg (by omega), if_pos (by omega), hm]

/-- A micro-program has a micro-operation exactly up to its end index. -/
theorem microProgram_isSome (i : Instr) (n : Nat) : (microProgram i n).isSome = true ↔ n ≤ endIndex i := by
  cases i with
  | reset ch =>
    simp only [microProgram, endIndex]
    unfold resetProgram; split <;> simp_all; omega
  | standby ch =>
    simp only [microProgram, endIndex]
    unfold standbyProgram; split <;> simp_all; omega
  | calofs ch =>
    simp only [microProgram, endIndex]
    unfold calofsProgram
    repeat' split
    all_goals simp; omega
  | read ch =>
    simp only [microProgram, endIndex]
    unfold readProgram
    repeat' split
    all_goals simp; omega

/-- The five shapes of micro-operation ACQUIRE is made of. -/
theorem acquireOp_cases (n : Nat) :
    acquireOp n = .startAcquire ∨ acquireOp n = .waitLow ∨ acquireOp n = .shiftIn ∨
    (∃ v, acquireOp n = .drv .sclk v) ∨ (acquireOp n = .dly 50 ∨ acquireOp n = .dly 100) := by
  unfold acquireOp pulseOp
  repeat' split
  all_goals simp [tSmpSetup, tSmpHold, tBitLow, tP25High, tP25Low]

theorem resetProgram_cases (n : Nat) (op : MicroOp) (h : resetProgram n = some op) :
    ((n = 0 ∨ n = 4) ∧ op = .drv .pdwn false) ∨ ((n = 2 ∨ n = 6) ∧ op = .drv .pdwn true) ∨
    (n = 1 ∧ op = .dly 50000) ∨ ((n = 3 ∨ n = 5) ∧ op = .dly 26000) ∨ (n = 7 ∧ op = .finish) := by
  unfold resetProgram at h
  split at h <;> simp_all [tPwrStable, tPdwnHigh, tPdwnLow]

theorem standbyProgram_cases (n : Nat) (op : MicroOp) (h : standbyProgram n = some op) :
    (n = 0 ∧ op = .drv .sclk false) ∨ (n = 1 ∧ op = .waitLow) ∨ (n = 2 ∧ op = .drv .sclk true) ∨
    (n = 3 ∧ op = .finish) := by
  unfold standbyProgram at h
  split at h <;> simp_all

theorem calofsProgram_cases (n : Nat) (op : MicroOp) (h : calofsProgram n = some op) :
    (n < 150 ∧ op = acquireOp n) ∨ (n = 150 ∧ op = .drv .sclk true) ∨ (n = 151 ∧ op = .dly 100) ∨
    (n = 152 ∧ op = .drv .sclk false) ∨ (n = 153 ∧ op = .waitLow) ∨ (n = 154 ∧ op = .finish) := by
  unfold calofsProgram at h
  repeat' split at h
  all_goals simp_all [tCalHigh]

theorem readProgram_cases (ch : ChCode) (n : Nat) (op : MicroOp) (h : readProgram ch n = some op) :
    (n = 0 ∧ op = .qry .sel0) ∨ (n = 1 ∧ op = .qry .sel1) ∨ (n = 2 ∧ op = .cmp ch) ∨
    (n = 3 ∧ op = .drv .sel0 (sel0Level ch)) ∨ (n = 4 ∧ op = .drv .sel1 (sel1Level ch)) ∨
    (n = 5 ∧ op = .settle) ∨ (6 ≤ n ∧ n < 756 ∧ op = acquireOp ((n - 6) % 150)) ∨ (n = 756 ∧ op = .finishRead) := by
  unfold readProgram at h
  repeat' split at h
  all_goals simp_all
  omega

end Sys2Proof.Machine
end

