-- ==== Sys2Proof/Laws/Step.lean ====
section
/-!
SUPPORT. Everything a step can do, said once, and the command words.
-/

namespace Sys2Proof.Machine

/-- A decoded word is the encoding of what it decodes to. -/
theorem encode_commandOf (w : Cmd) : encode (commandOf w) = w := by
  revert w; decide

theorem decode_ok_iff_commandOf (v : Variant) (w : Cmd) (i : Instr) :
    decode v w = .ok i ↔ commandOf w = i ∧ i.wellFormed v = true := by
  unfold decode
  split
  · constructor
    · intro h; cases h; exact ⟨rfl, ‹_›⟩
    · rintro ⟨rfl, -⟩; rfl
  · constructor
    · intro h; cases h
    · rintro ⟨rfl, h⟩; contradiction

/-- The moves of a step (the state after the instant is `t.advance`): engine reset, nothing, rejection, acceptance,
a micro-operation of the command in flight. -/
theorem step_cases (s t : State) (h : step s = .next t) :
    (s.now.rstN = false ∧ t = s.engineReset.advance) ∨
    (s.now.rstN = true ∧
      ((s.seq = .idle ∧ s.now.cmdValid = false ∧ t = s.advance) ∨
        (s.seq = .idle ∧ s.now.cmdValid = true ∧ (commandOf s.now.cmd).wellFormed s.variant = false ∧
          t = s.reject.advance) ∨
        (s.seq = .idle ∧ s.now.cmdValid = true ∧ (commandOf s.now.cmd).wellFormed s.variant = true ∧
          t = (s.accept s.now.cmd).advance) ∨
        (s.seq = .faulted ∧ t = s.advance) ∨
        (s.seq = .run ∧ ∃ op, microProgram (commandOf s.cmdQ) s.upc = some op ∧ t = (microStep op s).advance))) := by
  cases hr : s.now.rstN with
  | false => left; simp_all [step, State.move, afterInstant]
  | true =>
    right; refine ⟨rfl, ?_⟩
    cases hs : s.seq with
    | faulted => simp_all [step, State.move, afterInstant]
    | run =>
      simp only [step, State.move, hr, hs, if_true] at h
      cases hp : microProgram (commandOf s.cmdQ) s.upc with
      | none => simp [exec_eq_commandStep, commandStep, hs, hp, afterInstant] at h
      | some op =>
        rw [exec_of_run _ s op hs hp] at h
        simp [afterInstant] at h
        simp [← h]
    | idle =>
      cases hv : s.now.cmdValid with
      | false => simp_all [step, State.move, afterInstant]
      | true =>
        simp only [step, State.move, hr, hs, hv, if_true, decode] at h
        cases hw : (commandOf s.now.cmd).wellFormed s.variant with
        | false => simp_all [afterInstant]
        | true =>
          simp only [hw, if_true, exec_of_idle _ s hs, afterInstant, State.present, encode_commandOf] at h
          simp_all

end Sys2Proof.Machine
end

