-- ==== Sys2Proof/Laws/Runs.lean ====
section
/-!
SUPPORT. How a micro-operation ends, said once for all of them, and what follows for a step and for the words a run
takes.
-/

namespace Sys2Proof.Machine

/-! ## How a micro-operation ends -/

/-- A micro-operation faults exactly where it accesses a line and the access fails; a completion step ends the
command; every other leaves SEQ, CMD_Q, the strap and the flags DONE and REJ as they are. -/
theorem microStep_cases (op : MicroOp) (s : State) :
    (s.now.lineErr = true ∧ ∃ a, op.access = some a ∧ microStep op s = s.takeLineFault a.1 a.2) ∨
    (op = .finish ∧ microStep op s = complete s) ∨ (op = .finishRead ∧ microStep op s = completeRead s) ∨
    ((s.now.lineErr = false ∨ op.access = none) ∧ op ≠ .finish ∧ op ≠ .finishRead ∧
      (microStep op s).seq = s.seq ∧ (microStep op s).cmdQ = s.cmdQ ∧ (microStep op s).variant = s.variant ∧
      (microStep op s).done = s.done ∧ (microStep op s).rej = s.rej) := by
  cases op with
  | drv l v => rcases drive_cases l v s with ⟨he, h⟩ | ⟨he, h⟩ <;> simp [microStep, MicroOp.access, he, h]
  | startAcquire => rcases startAcquire_cases s with ⟨he, h⟩ | ⟨he, h⟩ <;> simp [microStep, MicroOp.access, he, h]
  | waitLow =>
    rcases waitLow_cases s with ⟨he, h⟩ | ⟨he, -, h⟩ | ⟨he, -, h⟩ <;> simp [microStep, MicroOp.access, he, h]
  | shiftIn => rcases shiftIn_cases s with ⟨he, h⟩ | ⟨he, h⟩ <;> simp [microStep, MicroOp.access, he, h]
  | qry l => rcases query_cases l s with ⟨he, h⟩ | ⟨he, h⟩ <;> simp [microStep, MicroOp.access, he, h]
  | dly n => simp [microStep, MicroOp.access, delay]
  | cmp ch => rcases compareChannel_cases ch s with ⟨-, h⟩ | ⟨-, h⟩ <;> simp [microStep, MicroOp.access, h]
  | settle => rcases settle_cases s with ⟨-, h⟩ | ⟨-, h⟩ <;> simp [microStep, MicroOp.access, h]
  | finish => simp [microStep]
  | finishRead => simp [microStep]

theorem complete_variant (s : State) : (complete s).variant = s.variant := rfl

theorem completeRead_variant (s : State) : (completeRead s).variant = s.variant := rfl

theorem microStep_variant (op : MicroOp) (s : State) : (microStep op s).variant = s.variant := by
  rcases microStep_cases op s with ⟨-, a, -, h⟩ | ⟨-, h⟩ | ⟨-, h⟩ | ⟨-, -, -, -, -, h, -⟩
  · simp [h]
  · rw [h, complete_variant]
  · rw [h, completeRead_variant]
  · exact h

/-- The completion step stands at the end index and nowhere else. -/
theorem microProgram_finish_iff (i : Instr) (n : Nat) (op : MicroOp) (h : microProgram i n = some op) :
    (op = .finish ∨ op = .finishRead) ↔ n = endIndex i := by
  have hacq (k : Nat) : acquireOp k ≠ .finish ∧ acquireOp k ≠ .finishRead := by
    rcases acquireOp_cases k with h | h | h | ⟨v, h⟩ | h | h <;> rw [h] <;> simp
  cases i with
  | reset ch =>
    rcases resetProgram_cases n op h with ⟨h, rfl⟩ | ⟨h, rfl⟩ | ⟨h, rfl⟩ | ⟨h, rfl⟩ | ⟨h, rfl⟩ <;>
      simp [endIndex] <;> omega
  | calofs ch =>
    rcases calofsProgram_cases n op h with ⟨h, rfl⟩ | ⟨h, rfl⟩ | ⟨h, rfl⟩ | ⟨h, rfl⟩ | ⟨h, rfl⟩ | ⟨h, rfl⟩ <;>
      simp [endIndex, hacq] <;> omega
  | standby ch =>
    rcases standbyProgram_cases n op h with ⟨h, rfl⟩ | ⟨h, rfl⟩ | ⟨h, rfl⟩ | ⟨h, rfl⟩ <;> simp [endIndex] <;> omega
  | read ch =>
    rcases readProgram_cases ch n op h with
      ⟨h, rfl⟩ | ⟨h, rfl⟩ | ⟨h, rfl⟩ | ⟨h, rfl⟩ | ⟨h, rfl⟩ | ⟨h, rfl⟩ | ⟨-, h, rfl⟩ | ⟨h, rfl⟩ <;>
      simp [endIndex, hacq] <;> omega

/-! ## A step -/

/-- VARIANT is a strap: no step writes it (10_state.md R43). -/
theorem step_variant (s t : State) (h : step s = .next t) : t.variant = s.variant := by
  rcases step_cases s t h with ⟨-, rfl⟩ | ⟨-, ⟨-, -, rfl⟩ | ⟨-, -, -, rfl⟩ | ⟨-, -, -, rfl⟩ | ⟨-, rfl⟩ | ⟨-, op, -, rfl⟩⟩ <;>
    simp [microStep_variant]

/-! ## The words a run takes -/

theorem takenWord_eq_some (s : State) (w : Cmd) :
    s.takenWord = some w ↔ s.now.rstN = true ∧ s.seq = .idle ∧ s.now.cmdValid = true ∧ s.now.cmd = w := by
  unfold State.takenWord State.cmdReady
  cases s.seq <;> cases s.now.rstN <;> cases s.now.cmdValid <;> simp

/-- A step is a rejection exactly where the word it takes is illegal in the variant. -/
theorem move_reject_iff (s : State) :
    s.move = .reject ↔ ∃ w, s.takenWord = some w ∧ (commandOf w).wellFormed s.variant = false := by
  unfold State.takenWord State.cmdReady State.move decode
  cases s.seq <;> cases s.now.rstN <;> cases s.now.cmdValid <;>
    cases h : (commandOf s.now.cmd).wellFormed s.variant <;> simp [h]

theorem wordsTaken_succ (k : Nat) (s t : State) (h : step s = .next t) :
    wordsTaken (k + 1) s = s.takenWord.toList ++ wordsTaken k t := by
  simp [wordsTaken, h]

theorem noneRejected_succ (k : Nat) (s t : State) (h : step s = .next t) :
    noneRejected (k + 1) s = (s.move != .reject && noneRejected k t) := by
  simp [noneRejected, h]

theorem run_succ (k : Nat) (s t : State) (h : step s = .next t) :
    Host.Core.run Sys2Proof.core (k + 1) s = Host.Core.run Sys2Proof.core k t := by
  have h' : Sys2Proof.core.step s = .next t := h
  simp only [Host.Core.run, h']

end Sys2Proof.Machine
end

