-- ==== Sys2Proof/Tests/Slice0.lean ====
section
/-!
SUPPORT. The model's own tests, one step each, with expected results from spec/95_test_vectors.md or worked out from
the rule named; and, for every statement with hypotheses, a state and operands that meet them.
-/

namespace Sys2Proof.Tests

open Sys2Proof.Machine

/-! ## Small states and inputs -/

/-- DOUT low, no failed access, no command. -/
def low : Inputs := { rstN := true, cmdValid := false, cmd := 0#4, dout := false, lineErr := false }

/-- DOUT high, no failed access, no command. -/
def high : Inputs := { low with dout := true }

/-- A failing line access. -/
def failing : Inputs := { low with lineErr := true }

/-- A word at the command port. -/
def offered (w : Cmd) : Inputs := { low with cmdValid := true, cmd := w }

/-- Engine reset asserted. -/
def inReset : Inputs := { low with rstN := false }

/-- An idle engine of a variant. -/
def idle (v : Variant) (env : List Inputs) : State := { State.reset with variant := v, env := env }

/-- An engine of a variant that plays a word at a position. -/
def playing (v : Variant) (w : Cmd) (upc : Nat) (x : Inputs) : State :=
  { State.reset with variant := v, cmdQ := w, seq := .run, upc := upc, busy := true, env := [x] }

/-- A halted engine: vector V84 of spec/95_test_vectors.md, READ halted at the query of SEL1. -/
def halted (x : Inputs) : State :=
  { State.reset with
    cmdQ := 0xE#4, seq := .faulted, upc := 1, fault := true, faultCause := 0x14#5, env := [x] }

/-- What one field of the next state is, none where there is no next state. -/
def after {α : Type} (f : State → α) (o : Host.Outcome State Fault Refusal) : Option α :=
  match o with
  | .next t => some (f t)
  | .fault _ => none
  | .refused _ => none

/-! ## Well-formedness: the one check, and a term it refuses -/

/-- 30_encoding.md R95: READ with CH = 3 is illegal in variant A and legal in variant B. -/
theorem test_read3_illformed_in_a : (Instr.read 3#2).wellFormed .a = false ∧ (Instr.read 3#2).wellFormed .b = true := by
  decide

/-! ## Decoding: words written out from 30_encoding.md R90, R91 and R97 -/

/-- Lifecycle family: OP 00, 01, 10 in bits 3:2, CH in bits 1:0. -/
theorem test_decode_lifecycle :
    decode .a 0b0000#4 = .ok (.reset 0#2) ∧ decode .b 0b0001#4 = .ok (.reset 1#2) ∧
    decode .a 0b0100#4 = .ok (.calofs 0#2) ∧ decode .b 0b0110#4 = .ok (.calofs 2#2) ∧
    decode .a 0b1000#4 = .ok (.standby 0#2) ∧ decode .a 0b1011#4 = .ok (.standby 3#2) := by
  decide

/-- READ: OP 11 in bits 3:2, the channel in bits 1:0; 4'hF in the two variants. -/
theorem test_decode_read :
    decode .a 0b1100#4 = .ok (.read 0#2) ∧ decode .a 0b1101#4 = .ok (.read 1#2) ∧
    decode .b 0b1110#4 = .ok (.read 2#2) ∧ decode .b 0b1111#4 = .ok (.read 3#2) ∧
    decode .a 0b1111#4 = .error .readChannel3InVariantA := by
  decide

/-- Bytes and table words: the low four bits carry the word, a set bit above them is refused. -/
theorem test_decode_bytes :
    decodeByte .a 0x0C#8 = .ok (.read 0#2) ∧ decodeByte .a 0x1C#8 = .error .notACommandWord ∧
    decodeTableWord 8 0x4 = some (.calofs 0#2) ∧ decodeTableWord 4 0xF = some (.read 3#2) ∧
    decodeTableWord 8 0x24 = none := by
  decide

/-! ## The datapath -/

/-- Vectors V17, V18, V19, V19a of spec/95_test_vectors.md. -/
theorem test_shiftInto :
    shiftInto 0x00000091#32 true = 0x00000123#32 ∧ shiftInto 0x7FFFFFFF#32 true = 0xFFFFFFFF#32 ∧
    shiftInto 0x80000000#32 false = 0#32 ∧ shiftInto 0xFFFFFFFF#32 false = 0xFFFFFFFE#32 := by
  decide

/-- Examples E1 to E4 (the source's) and vectors V63, V67, V68 of spec/95_test_vectors.md. -/
theorem test_sext24 :
    sext24 0x000001#32 = 1 ∧ sext24 0x7FFFFF#32 = 8388607 ∧ sext24 0x800000#32 = -8388608 ∧
    sext24 0xFFFFFF#32 = -1 ∧ sext24to32 0x00800001#32 = 0xFF800001#32 ∧ sext24to32 0xFF000001#32 = 1#32 ∧
    sext24to32 0xAB800000#32 = 0xFF800000#32 := by
  decide

/-- Vector V15: the bits of 24'h123456, most significant first, end as ACC = 32'h00123456. -/
theorem test_shiftAll_v15 :
    shiftAll 0#32 ((List.range 24).map fun k => (0x123456#24).getLsbD (23 - k)) = 0x00123456#32 := by
  decide

/-- Vectors V20 to V22 and V24 to V27, `decode(VARIANT, q1, q0)`; V23 is the unreachable pair (log 8). -/
theorem test_channelOfLevels :
    channelOfLevels .a false false = 0#2 ∧ channelOfLevels .a false true = 1#2 ∧
    channelOfLevels .a true false = 2#2 ∧ channelOfLevels .b false false = 0#2 ∧
    channelOfLevels .b false true = 1#2 ∧ channelOfLevels .b true false = 2#2 ∧
    channelOfLevels .b true true = 3#2 := by
  decide

/-- The cause table of 60_exceptions.md R214. -/
theorem test_causes :
    causeOf .dout .smp = 0x08#5 ∧ causeOf .sclk .drv = 0x01#5 ∧ causeOf .pdwn .drv = 0x02#5 ∧
    causeOf .sel0 .drv = 0x03#5 ∧ causeOf .sel1 .drv = 0x04#5 ∧ causeOf .sel0 .qry = 0x13#5 ∧
    causeOf .sel1 .qry = 0x14#5 := by
  decide

/-- 30_encoding.md R100: a sequence, one command a line, with a comment and a comment line. -/
theorem test_assemble_sequence :
    assembleSequence .b ["RESET", "; a comment line", "READ IN4   ; a comment"] = some [0x0#4, 0xF#4] ∧
    assembleSequence .a ["RESET", "READ IN4"] = none := by
  decide

/-! ## The commands, at most two tests each -/

/-- RESET: vector V72, a failed DRV(PDWN, 0) with PDWN_Q = 1: register and position stay, FAULT_CAUSE = 5'h02. -/
theorem test_reset_failed_drive :
    after (fun t => (t.pdwnQ, t.upc, t.faultCause, t.seq))
      (step { playing .a 0x0#4 4 failing with pdwnQ := true }) = some (true, 4, 0x02#5, .faulted) := by
  decide

/-- RESET: vector V50, the last drive and then completion leave PDWN high and STATUS = 7'b0000010. -/
theorem test_reset_completes :
    after (fun t => (t.pdwnQ, t.upc)) (step (playing .a 0x0#4 6 low)) = some (true, 7) ∧
    after (fun t => (t.status, t.seq)) (step (playing .a 0x0#4 7 low)) = some (0b0000010#7, .idle) := by
  decide

/-- CALOFS: vector V55, a high poll at index 153 leaves the position and the trace; a low one ends the wait. -/
theorem test_calofs_wait :
    after (fun t => (t.upc, t.trace)) (step (playing .b 0x4#4 153 high)) = some (153, []) ∧
    after (fun t => (t.upc, t.trace)) (step (playing .b 0x4#4 153 low)) = some (154, [.waited]) := by
  decide

/-- CALOFS: vector V54, completion writes neither RESULT nor RVALID. -/
theorem test_calofs_completes :
    after (fun t => (t.result, t.status)) (step { playing .b 0x4#4 154 low with acc := 0x00ABCDEF#32 }) =
      some (0#32, 0b0000010#7) := by
  decide

/-- STANDBY: vector V56, index 2 drives the clock high; ACC keeps its value. -/
theorem test_standby_clock_high :
    after (fun t => (t.sclkQ, t.acc, t.upc)) (step { playing .a 0x8#4 2 low with acc := 0x1234#32 }) =
      some (true, 0x1234#32, 3) := by
  decide

/-- STANDBY: vector V99c, in variant A the word 4'hB is accepted as STANDBY. -/
theorem test_standby_word_b_accepted :
    after (fun t => (t.status, t.cmdQ, t.seq)) (step (idle .a [offered 0xB#4])) = some (0b0000001#7, 0xB#4, .run) := by
  decide

/-- READ: vector V28 (TEMP, IN2): CMP of variant A with levels (low, high) and IN2 requested. -/
theorem test_read_compare_crossing :
    after (fun t => (t.prevCh, t.chg, t.disc, t.upc)) (step { playing .a 0xD#4 2 low with sel1Q := true }) =
      some (2#2, true, true, 3) := by
  decide

/-- READ: vector V32, completion with 24'h800000 in ACC. -/
theorem test_read_completes :
    after (fun t => (t.result, t.status)) (step { playing .a 0xD#4 756 low with acc := 0x00800000#32 }) =
      some (0xFF800000#32, 0b0000110#7) := by
  decide

/-! ## The command port -/

/-- Vectors V97 and V98: 4'hF is rejected in variant A, accepted in variant B. -/
theorem test_word_f_by_variant :
    after (fun t => (t.status, t.seq)) (step { idle .a [offered 0xF#4] with done := true, rvalid := true }) =
      some (0b0001000#7, .idle) ∧
    after (fun t => (t.status, t.cmdQ, t.seq)) (step (idle .b [offered 0xF#4])) = some (0b0000001#7, 0xF#4, .run) := by
  decide

/-- Vector V96: a word at the port of a halted engine changes nothing, engine reset leaves the state. -/
theorem test_halted :
    after (fun t => (t.status, t.seq, t.upc)) (step (halted (offered 0xC#4))) = some (0b0010000#7, .faulted, 1) ∧
    after (fun t => (t.status, t.seq, t.faultCause)) (step (halted inReset)) = some (0b0000000#7, .idle, 0#5) := by
  decide

/-- The host's probe of a word: the first step after reset takes it. -/
theorem test_first_step_after_reset :
    after (fun t => (t.seq, t.cmdQ, t.upc)) (step (State.reset.withFetchWord 8 0xC)) = some (.run, 0xC#4, 0) := by
  decide

/-! ## Witnesses: hypotheses that can be met -/

theorem witness_SelectMappingIsABijection :
    (sel0Level 3#2 = sel0Level 3#2 ∧ sel1Level 3#2 = sel1Level 3#2) ∧ (channelOf .a 2#2).isSome = true ∧
    (channelOf .b 3#2).isSome = true ∧ (true && false) = false := by
  decide

theorem witness_SelectLevelsOfEachChannel :
    channelOf .a 0#2 = some .in1 ∧ channelOf .b 1#2 = some .in2 ∧ channelOf .a 2#2 = some .temp ∧
    channelOf .b 2#2 = some .in3 ∧ channelOf .b 3#2 = some .in4 := by
  decide

theorem witness_EngineResetOverridesEverything : (playing .a 0xE#4 300 inReset).now.rstN = false := by
  decide

theorem witness_StepRunsTheDecodedCommand :
    ((idle .a [offered 0xE#4]).now.rstN = true ∧ (idle .a [offered 0xE#4]).seq = .idle ∧
      (idle .a [offered 0xE#4]).now.cmdValid = true ∧
      decode (idle .a [offered 0xE#4]).variant (idle .a [offered 0xE#4]).now.cmd = .ok (.read 2#2)) ∧
    (after State.seq (exec (.read 2#2) (idle .a [offered 0xE#4])) = some .run) ∧
    ((playing .a 0xE#4 756 low).seq = .run ∧
      after State.seq (exec (commandOf 0xE#4) (playing .a 0xE#4 756 low)) = some .idle) ∧
    ((idle .b [low]).seq = .idle ∧ (idle .b [low]).now.cmdValid = false) := by
  decide

theorem witness_PlacedWordIsTakenByTheNextStep :
    decodeTableWord 8 0xE = some (.read 2#2) ∧ (Instr.read 2#2).wellFormed State.reset.variant = true := by
  decide

theorem witness_IdleEngineAcceptsEveryLegalCommand :
    (idle .a []).seq = .idle ∧
    ∀ i ∈ [Instr.reset 3#2, .calofs 0#2, .standby 1#2, .read 2#2], i.wellFormed (idle .a []).variant = true := by
  decide

theorem witness_IllegalWordIsRejected :
    (idle .a [offered 0xF#4]).seq = .idle ∧ (idle .a [offered 0xF#4]).variant = .a ∧
    (idle .a [offered 0xF#4]).now.rstN = true ∧ (idle .a [offered 0xF#4]).now.cmdValid = true ∧
    (idle .a [offered 0xF#4]).now.cmd = 0xF#4 := by
  decide

theorem witness_HaltedEngineDoesNothing :
    (halted (offered 0xC#4)).seq = .faulted ∧ (halted (offered 0xC#4)).now.rstN = true := by
  decide

theorem witness_CommandPortIsIgnoredUnlessIdle :
    (playing .a 0xE#4 607 high).seq ≠ .idle ∧ (playing .a 0xE#4 607 high).env = [high] := by
  decide

theorem witness_micro_operations :
    (playing .a 0xE#4 0 high).now.lineErr = false ∧ (playing .a 0xE#4 0 high).now.dout = true ∧
    (playing .a 0xE#4 0 low).now.dout = false ∧ (playing .a 0xE#4 0 failing).now.lineErr = true ∧
    (playing .a 0xE#4 0 high).now.rstN = true := by
  decide

theorem witness_ShiftInShiftsThenTakesTheLevel : (List.replicate 24 true).length = 24 := by
  decide

theorem witness_CompareSetsChangeFlagsAndPath :
    (playing .a 0xE#4 2 low).selectedChannel = 0#2 ∧ (playing .a 0xE#4 2 low).selectedChannel ≠ 2#2 := by
  decide

theorem witness_EveryFailedLineAccessFaults :
    (playing .a 0xE#4 610 failing).seq = .run ∧
    microProgram (.read 2#2) (playing .a 0xE#4 610 failing).upc = some .shiftIn ∧
    MicroOp.shiftIn.access = some (.dout, .smp) ∧ (playing .a 0xE#4 610 failing).now.lineErr = true := by
  decide

theorem witness_StepsWithoutLineAccessCannotFail :
    (playing .a 0xE#4 5 failing).seq = .run ∧
    microProgram (.read 2#2) (playing .a 0xE#4 5 failing).upc = some .settle ∧ MicroOp.settle.access = none ∧
    (playing .a 0xE#4 5 failing).env = [failing] := by
  decide

theorem witness_ResetPlaysThePowerDownPulseTrain :
    ∀ n ∈ [0, 1, 2, 3, 4, 5, 6, 7], (playing .a 0x3#4 n low).seq = .run ∧ (playing .a 0x3#4 n low).now.lineErr = false ∧
      (playing .a 0x3#4 n low).upc = n := by
  decide

theorem witness_StandbyPlaysClockLowWaitClockHigh :
    (∀ n ∈ [0, 1, 2, 3], (playing .a 0x8#4 n low).seq = .run ∧ (playing .a 0x8#4 n low).now.lineErr = false ∧
      (playing .a 0x8#4 n low).now.dout = false ∧ (playing .a 0x8#4 n low).upc = n) ∧
    (playing .a 0x8#4 1 high).now.dout = true ∧ (playing .a 0x8#4 1 high).now.lineErr = false := by
  decide

/-- Both commands, every start, the first and the last place of each clause (`k` at 0 and 23). -/
theorem witness_AcquireStepsInReadAndCalofs :
    (∀ a ∈ [6, 156, 306, 456, 606], ∀ n ∈ [0, 1, 2, 3, 4, 5, 6, 7, 140, 141, 142, 143, 144, 145, 146, 147, 148, 149],
      (playing .b 0xF#4 (a + n) low).seq = .run ∧ (playing .b 0xF#4 (a + n) low).now.lineErr = false ∧
      (playing .b 0xF#4 (a + n) low).upc = a + n) ∧
    (playing .b 0x4#4 0 low).seq = .run ∧ (playing .b 0x4#4 0 low).upc = 0 ∧ (playing .b 0x4#4 1 high).now.dout = true := by
  decide

theorem witness_CalofsPlaysThe26thPulseAndWaits :
    ∀ n ∈ [150, 151, 152, 153, 154], (playing .a 0x4#4 n low).seq = .run ∧ (playing .a 0x4#4 n low).now.lineErr = false ∧
      (playing .a 0x4#4 n low).now.dout = false ∧ (playing .a 0x4#4 n high).now.dout = true ∧
      (playing .a 0x4#4 n low).upc = n := by
  decide

theorem witness_ReadQueriesComparesDrivesSettlesCompletes :
    ∀ n ∈ [0, 1, 2, 3, 4, 5, 756], (playing .a 0xE#4 n low).seq = .run ∧ (playing .a 0xE#4 n low).now.lineErr = false ∧
      (playing .a 0xE#4 n low).upc = n := by
  decide

theorem witness_ReadOfTheSelectedChannelSkipsTheChange :
    (playing .b 0xC#4 2 low).seq = .run ∧ (playing .b 0xC#4 2 low).upc = 2 ∧
    readProgram 0#2 606 = some .startAcquire ∧ readProgram 0#2 756 = some .finishRead := by
  decide

theorem witness_ResetCommandRun :
    (idle .a (offered 0x0#4 :: (List.replicate 8 low ++ []))).seq = .idle ∧ (offered 0x0#4).rstN = true ∧
    (offered 0x0#4).cmdValid = true ∧ opField (offered 0x0#4).cmd = 0#2 ∧ (List.replicate 8 low).length = 8 ∧
    ∀ y ∈ List.replicate 8 low, y.quiet := by
  decide

theorem witness_StandbyCommandRun :
    (idle .a (offered 0x8#4 :: low :: ([high] ++ low :: low :: low :: []))).seq = .idle ∧
    opField (offered 0x8#4).cmd = 2#2 ∧ low.quiet ∧ low.dout = false ∧ ∀ y ∈ [high], y.quiet ∧ y.dout = true := by
  decide

/-- A run of low, quiet instants meets what the run statements ask of their inputs. -/
theorem quiet_of_mem_replicate (n : Nat) : ∀ y ∈ List.replicate n low, y.quiet := by
  intro y hy
  rw [List.eq_of_mem_replicate hy]
  decide

theorem doutAt_replicate (n m : Nat) : doutAt (List.replicate n low) m = false := by
  unfold doutAt
  rw [List.getElem?_replicate]
  split <;> rfl

theorem witness_AcquireRun :
    (playing .a 0xE#4 606 low).seq = .run ∧ 606 ∈ acquireStarts (commandOf (playing .a 0xE#4 606 low).cmdQ) ∧
    (List.replicate 150 low).length = 150 ∧ (∀ y ∈ List.replicate 150 low, y.quiet) ∧
    doutAt (List.replicate 150 low) 1 = false :=
  ⟨rfl, by decide, List.length_replicate, quiet_of_mem_replicate 150, doutAt_replicate 150 1⟩

theorem witness_CalofsCommandRun :
    opField (offered 0x4#4).cmd = 1#2 ∧ (List.replicate 150 low).length = 150 ∧
    (∀ y ∈ List.replicate 150 low, y.quiet) ∧ doutAt (List.replicate 150 low) 1 = false ∧
    ∀ y ∈ [high, high], y.quiet ∧ y.dout = true :=
  ⟨rfl, List.length_replicate, quiet_of_mem_replicate 150, doutAt_replicate 150 1, by decide⟩

/-- The three paths of READ in variant A from (low, low): IN1 is "same", IN2 "change", TEMP "crossing". -/
theorem witness_ReadCommandRun :
    (idle .a []).selectedChannel = 0#2 ∧
    (∀ ch ∈ [0#2, 1#2, 2#2], (Instr.read ch).wellFormed .a = true ∧ (offered (encode (.read ch))).cmd = encode (.read ch)) ∧
    ((0#2 : ChCode) != 0#2) = false ∧ ((0#2 : ChCode) != 1#2 && crossing .a 0#2 1#2) = false ∧
    ((0#2 : ChCode) != 2#2 && crossing .a 0#2 2#2) = true ∧
    (List.replicate 154 low).length = 3 + 150 * 1 + 1 ∧ (List.replicate 157 low).length = 6 + 150 * 1 + 1 ∧
    (List.replicate 757 low).length = 6 + 150 * 5 + 1 ∧ (∀ y ∈ List.replicate 757 low, y.quiet) ∧
    (∀ j < 5, doutAt (List.replicate 757 low) (6 + 150 * j + 1) = false) :=
  ⟨by decide, by decide, by decide, by decide, by decide, List.length_replicate, List.length_replicate,
    List.length_replicate, quiet_of_mem_replicate 757, fun j _ => doutAt_replicate 757 _⟩

theorem witness_WaitLowHoldsWhileDoutIsHigh :
    (playing .a 0x8#4 1 high).seq = .run ∧ (playing .a 0x8#4 1 high).currentOp = some .waitLow ∧
    (playing .a 0x8#4 1 high).env = [high] ++ [] ∧ ∀ y ∈ [high], y.quiet ∧ y.dout = true := by
  decide

/-- The frames and `PositionNeverMovesBack`: a next state of each command, idle, running and halted. -/
theorem witness_frames :
    ∀ i ∈ [Instr.reset 0#2, .calofs 0#2, .standby 0#2, .read 2#2],
      (after State.seq (exec i (idle .a []))).isSome = true ∧
      (after State.seq (exec i (playing .a (encode i) 0 low))).isSome = true ∧
      (after State.seq (exec i (playing .a (encode i) (endIndex i) low))).isSome = true ∧
      (after State.seq (exec i (halted low))).isSome = true := by
  decide

theorem witness_OnlyReadChangesTheSelectLines :
    after State.sel1Q (step (playing .a 0xE#4 4 low)) = some true ∧ (playing .a 0xE#4 4 low).sel1Q = false ∧
    (∀ ch, Instr.calofs 0#2 ≠ .read ch) ∧ microProgram (.calofs 0#2) 150 = some (.drv .sclk true) := by
  refine ⟨by decide, by decide, fun ch h => ?_, by decide⟩
  cases h

theorem witness_OnlyResetDependsOnPowerDown :
    (∀ ch, Instr.read 0#2 ≠ .reset ch) ∧ after State.upc (exec (.read 0#2) (playing .a 0xC#4 0 low)) = some 1 := by
  refine ⟨fun ch h => ?_, by decide⟩
  cases h

theorem witness_LineRegistersFollowTheDrives :
    after (fun t => (t.trace, t.lineReg .pdwn)) (step (playing .a 0x0#4 2 low)) = some ([.drv .pdwn true], true) ∧
    (playing .a 0x0#4 2 low).now.rstN = true := by
  decide

theorem witness_EachStepAddsAtMostOneEvent :
    after State.trace (step (playing .a 0x0#4 1 low)) = some [.dly 50000] := by
  decide

theorem witness_ResultIsWrittenOnlyByReadCompletion :
    after State.result (step { playing .a 0xC#4 756 low with acc := 5#32 }) = some 5#32 ∧
    (playing .a 0xC#4 756 low).result ≠ 5#32 ∧ (playing .a 0xC#4 756 low).now.rstN = true := by
  decide

theorem witness_SampleIsIndependentOfTheOldAccumulator : (List.replicate 24 false).length = 24 := by
  decide

theorem witness_StepKeepsTheEngineInvariant :
    (playing .b 0xC#4 606 low).Inv ∧ after State.upc (step (playing .b 0xC#4 606 low)) = some 607 :=
  ⟨⟨by decide, by decide, by decide, by decide, by decide, by decide, by decide, by decide⟩, by decide⟩

theorem witness_EngineNeverStopsUnderTheInvariant : (halted failing).Inv :=
  ⟨by decide, by decide, by decide, by decide, by decide, by decide, by decide, by decide⟩

theorem witness_StepKeepsTheSampleInvariant :
    (playing .b 0xC#4 607 low).Inv ∧ (playing .b 0xC#4 607 low).SampleInv ∧
    after State.upc (step (playing .b 0xC#4 607 low)) = some 608 :=
  ⟨⟨by decide, by decide, by decide, by decide, by decide, by decide, by decide, by decide⟩, by decide, by decide⟩

theorem witness_ports :
    (idle .a [low]).now.rstN = true ∧ { idle .a [low] with rvalid := true }.rvalid = true ∧
    (idle .a [low]).rvalid = false ∧ (idle .a [inReset]).now.rstN = false ∧
    { idle .a [inReset] with rvalid := true }.rvalid = true ∧
    { idle .a [inReset] with rvalid := true }.now.rstN = false := by
  decide

theorem witness_DelaysFitTheTimer :
    microProgram (.reset 0#2) 1 = some (.dly 50000) ∧ (MicroOp.dly 50000).delayNs = some 50000 ∧
    microProgram (.read 0#2) 5 = some .settle ∧ MicroOp.settle.delayNs = some 50000 ∧ 0 < 7 ∧ 0 < 3 := by
  decide

/-- In CALOFS; `witness_AcquireRun` meets the same hypotheses in READ. -/
theorem witness_TotalsOfOneAcquire :
    (playing .b 0x4#4 0 low).seq = .run ∧ 0 ∈ acquireStarts (commandOf (playing .b 0x4#4 0 low).cmdQ) ∧
    (List.replicate 150 low).length = 150 ∧ (∀ y ∈ List.replicate 150 low, y.quiet) ∧
    doutAt (List.replicate 150 low) 1 = false :=
  ⟨rfl, by decide, List.length_replicate, quiet_of_mem_replicate 150, doutAt_replicate 150 1⟩

/-- A completion, a failed access, a high poll, a legal and an illegal word, and the engine ready after a completion. -/
theorem witness_CommandsEndAsCompletedFaultedOrRejected :
    after State.completed (step (playing .a 0x8#4 3 low)) = some true ∧
    after State.halted (step (playing .a 0x8#4 1 failing)) = some true ∧
    after State.ended (step (playing .a 0x8#4 1 high)) = some false ∧
    (idle .a [offered 0x8#4]).takenWord = some 0x8#4 ∧
    after State.ended (step (idle .a [offered 0x8#4])) = some false ∧
    (idle .a [offered 0xF#4]).takenWord = some 0xF#4 ∧
    after State.rejected (step (idle .a [offered 0xF#4])) = some true ∧
    after State.cmdReady (step { playing .a 0x8#4 3 low with env := [low, low] }) = some true := by
  decide

/-- STANDBY alone ends well in variant A; after the illegal word 4'hF, whose REJ the acceptance of STANDBY clears, the run
has not ended well although its last command has completed with REJ = 0. -/
theorem witness_RunEndsWellOnlyWithoutRejection :
    (idle .a (offered 0x8#4 :: List.replicate 4 low)).endedWell 5 [0x8#4] = true ∧
    wordsTaken 6 (idle .a (offered 0xF#4 :: offered 0x8#4 :: List.replicate 4 low)) = [0xF#4, 0x8#4] ∧
    (commandOf 0xF#4).wellFormed .a = false ∧
    after (fun t => (t.completed, t.rej))
      (Host.Core.run Sys2Proof.core 6 (idle .a (offered 0xF#4 :: offered 0x8#4 :: List.replicate 4 low))) =
      some (true, false) ∧
    (idle .a (offered 0xF#4 :: offered 0x8#4 :: List.replicate 4 low)).endedWell 6 [0xF#4, 0x8#4] = false := by
  decide

end Sys2Proof.Tests
end

section
/-!
The sign-extension unit as a map of the low 24 bits (41_acquisition.md R138): whatever the upper byte is, its output is
the 32-bit sign extension of those bits, so its value is their two's-complement reading.
-/

namespace Sys2Proof.Machine

/-- The upper byte of the operand is ignored. -/
theorem sext24to32_append (h : BitVec 8) (u : BitVec 24) : sext24to32 (h ++ u) = u.signExtend 32 := by
  rw [sext24to32_eq_signExtend, BitVec.extractLsb'_append_eq_right]

theorem sext24to32_append_toInt (h : BitVec 8) (u : BitVec 24) : (sext24to32 (h ++ u)).toInt = u.toInt := by
  rw [sext24to32_append, BitVec.toInt_signExtend_of_le (by decide)]

theorem sext24to32_setWidth_toInt (u : BitVec 24) : (sext24to32 (u.setWidth 32)).toInt = u.toInt := by
  rw [sext24to32_eq_signExtend, BitVec.extractLsb'_setWidth_of_le (by decide), BitVec.extractLsb'_eq_self,
    BitVec.toInt_signExtend_of_le (by decide)]

theorem sext24to32_append_getLsbD_of_ge (h : BitVec 8) (u : BitVec 24) {i : Nat} (hge : 23 ≤ i) (hlt : i < 32) :
    (sext24to32 (h ++ u)).getLsbD i = u.msb := by
  rw [sext24to32_append, BitVec.getLsbD_signExtend, decide_eq_true hlt, Bool.true_and]
  split
  · rw [BitVec.msb_eq_getLsbD_last, show i = 24 - 1 by omega]
  · rfl

/-- Settles O45: the output is the two's-complement reading of the low 24 bits, whose value, range and residue are those
of `BitVec.toInt`; it takes every integer of the range once, since the 24-bit word of an integer in the range reads back
as that integer and two words with one reading are equal. -/
theorem signExtensionUnit : Obligations.SignExtensionUnit := by
  unfold Obligations.SignExtensionUnit
  refine ⟨fun u h => ?_, fun r hlo hhi => ?_⟩
  · have hrange : -8388608 ≤ u.toInt ∧ u.toInt < 8388608 := ⟨u.le_toInt, BitVec.toInt_lt⟩
    have hval := u.toInt_eq_msb_cond
    rw [BitVec.msb_eq_getLsbD_last] at hval
    simp only [sext24to32_append_toInt]
    refine ⟨fun h0 => ?_, fun h1 => ?_, hrange.1, by omega, ?_, fun j hj => ?_⟩
    · rw [hval, h0]
      rfl
    · rw [hval, h1]
      rfl
    · have hmod : u.toInt % ((2 ^ 24 : Nat) : Int) = (u.toNat : Int) % ((2 ^ 24 : Nat) : Int) := by
        rw [BitVec.toInt_eq_toNat_bmod, Int.bmod_emod]
      have hlt := u.isLt
      omega
    · rw [sext24to32_append_getLsbD_of_ge h u (by omega) (by omega),
        sext24to32_append_getLsbD_of_ge h u (by omega) (by omega)]
  · have hread : (BitVec.ofInt 24 r).toInt = r :=
      BitVec.toInt_ofInt_eq_self (by decide) hlo (Int.lt_add_one_of_le hhi)
    refine ⟨BitVec.ofInt 24 r, ?_, fun u' hu' => ?_⟩
    · rw [sext24to32_setWidth_toInt, hread]
    · rw [sext24to32_setWidth_toInt] at hu'
      exact BitVec.toInt_inj.mp (hu'.trans hread.symm)

end Sys2Proof.Machine
end

section
/-!
The channel select (42_channel_select.md): the levels of each channel, what a micro-operation and a step leave of the
line registers, and that only READ reaches the select lines.
-/

namespace Sys2Proof.Machine

/-! ## The levels of a channel -/

/-- Settles O5: the two levels are the two bits of the code by definition; a code and a variant fix the channel, so each
clause is read off at the code the channel has. -/
theorem selectLevelsOfEachChannel : Obligations.SelectLevelsOfEachChannel := by
  unfold Obligations.SelectLevelsOfEachChannel
  refine ⟨fun ch => ⟨rfl, rfl⟩, fun v ch => ?_⟩
  cases v <;> revert ch <;> decide

/-! ## What leaves a line register as it is -/

/-- A micro-operation writes a line register only where it drives that line (10_state.md R39). -/
theorem microStep_lineReg (op : MicroOp) (s : State) (l : OutLine) (h : op.access ≠ some (l.line, .drv)) :
    (microStep op s).lineReg l = s.lineReg l := by
  cases op with
  | drv m v =>
    have hne : m ≠ l := fun hm => h (by rw [hm]; rfl)
    rcases drive_cases m v s with ⟨-, hd⟩ | ⟨-, hd⟩ <;> cases l <;> simp [microStep, State.lineReg, hd, hne]
  | startAcquire =>
    have hne : l ≠ .sclk := fun hl => h (by rw [hl]; rfl)
    rcases startAcquire_cases s with ⟨-, hd⟩ | ⟨-, hd⟩ <;> cases l <;> simp_all [microStep, State.lineReg]
  | waitLow => rcases waitLow_cases s with ⟨-, hd⟩ | ⟨-, -, hd⟩ | ⟨-, -, hd⟩ <;> simp [microStep, State.lineReg, hd]
  | shiftIn => rcases shiftIn_cases s with ⟨-, hd⟩ | ⟨-, hd⟩ <;> simp [microStep, State.lineReg, hd]
  | qry m => rcases query_cases m s with ⟨-, hd⟩ | ⟨-, hd⟩ <;> simp [microStep, State.lineReg, hd]
  | dly n => rfl
  | cmp ch => rfl
  | settle => rfl
  | finish => rfl
  | finishRead => rfl

/-- A step out of engine reset that changes a line register plays a micro-operation that drives the line. -/
theorem step_lineReg_ne (s t : State) (l : OutLine) (h : step s = .next t) (hr : s.now.rstN = true)
    (hne : t.lineReg l ≠ s.lineReg l) :
    s.seq = .run ∧ ∃ op, microProgram (commandOf s.cmdQ) s.upc = some op ∧ op.access = some (l.line, .drv) := by
  rcases step_cases s t h with
    ⟨h0, -⟩ | ⟨-, ⟨-, -, rfl⟩ | ⟨-, -, -, rfl⟩ | ⟨-, -, -, rfl⟩ | ⟨-, rfl⟩ | ⟨hs, op, hop, rfl⟩⟩
  · simp [hr] at h0
  · exact absurd rfl hne
  · exact absurd rfl hne
  · exact absurd rfl hne
  · exact absurd rfl hne
  · exact ⟨hs, op, hop, not_not.mp fun ha => hne (microStep_lineReg op s l ha)⟩

/-! ## Who reaches the select lines -/

/-- ACQUIRE touches only the clock and the data line (41_acquisition.md R131). -/
theorem acquireOp_access_ne_select (n : Nat) (l : SelLine) (k : AccessKind) :
    (acquireOp n).access ≠ some (l.line, k) := by
  rcases acquireOp_cases n with h | h | h | ⟨v, h⟩ | h | h <;> rw [h] <;>
    cases l <;> simp [MicroOp.access, OutLine.line, SelLine.line]

/-- No position of RESET, CALOFS or STANDBY accesses a select line, in any way. -/
theorem microProgram_access_ne_select (i : Instr) (n : Nat) (op : MicroOp) (hi : ∀ ch, i ≠ .read ch)
    (h : microProgram i n = some op) (l : SelLine) (k : AccessKind) : op.access ≠ some (l.line, k) := by
  cases i with
  | reset ch =>
    rcases resetProgram_cases n op h with ⟨-, rfl⟩ | ⟨-, rfl⟩ | ⟨-, rfl⟩ | ⟨-, rfl⟩ | ⟨-, rfl⟩ <;>
      cases l <;> simp [MicroOp.access, OutLine.line, SelLine.line]
  | calofs ch =>
    rcases calofsProgram_cases n op h with ⟨-, rfl⟩ | ⟨-, rfl⟩ | ⟨-, rfl⟩ | ⟨-, rfl⟩ | ⟨-, rfl⟩ | ⟨-, rfl⟩
    · exact acquireOp_access_ne_select n l k
    all_goals cases l <;> simp [MicroOp.access, OutLine.line, SelLine.line]
  | standby ch =>
    rcases standbyProgram_cases n op h with ⟨-, rfl⟩ | ⟨-, rfl⟩ | ⟨-, rfl⟩ | ⟨-, rfl⟩ <;>
      cases l <;> simp [MicroOp.access, OutLine.line, SelLine.line]
  | read ch => exact absurd rfl (hi ch)

/-- A command word with a select line accessed at some position of its micro-program is a READ. -/
theorem commandOf_eq_read_of_access_select (w : Cmd) (n : Nat) (op : MicroOp) (l : SelLine) (k : AccessKind)
    (h : microProgram (commandOf w) n = some op) (ha : op.access = some (l.line, k)) :
    ∃ ch, commandOf w = .read ch := by
  by_contra hread
  exact microProgram_access_ne_select _ n op (not_exists.mp hread) h l k ha

/-- Settles O39: a register that changes out of engine reset was driven, and a position that accesses a select line
is one of READ; the reset levels (low, low) decode to IN1 in both variants. -/
theorem onlyReadChangesTheSelectLines : Obligations.OnlyReadChangesTheSelectLines := by
  unfold Obligations.OnlyReadChangesTheSelectLines
  refine ⟨fun s t h hne => ?_, fun i n op hi h => ?_, fun v => by cases v <;> decide⟩
  · cases hr : s.now.rstN with
    | false => exact .inl rfl
    | true =>
      right
      rcases hne with h0 | h1
      · obtain ⟨hs, op, hop, ha⟩ := step_lineReg_ne s t .sel0 h hr h0
        exact ⟨hs, commandOf_eq_read_of_access_select _ _ op .sel0 .drv hop ha⟩
      · obtain ⟨hs, op, hop, ha⟩ := step_lineReg_ne s t .sel1 h hr h1
        exact ⟨hs, commandOf_eq_read_of_access_select _ _ op .sel1 .drv hop ha⟩
  · have hacc := microProgram_access_ne_select i n op hi h
    refine ⟨?_, fun v => ⟨?_, ?_⟩⟩
    · rintro l rfl
      exact hacc l .qry rfl
    · rintro rfl
      exact hacc .sel0 .drv rfl
    · rintro rfl
      exact hacc .sel1 .drv rfl

end Sys2Proof.Machine
end

section
/-!
The discard criterion (43_read_settling.md R174): which code is the temperature channel, and which transitions cross
into or out of it.
-/

namespace Sys2Proof.Machine

/-- Code 2'b10 is the temperature channel in variant A; in variant B it is IN3 (30_encoding.md R94). -/
theorem isTemp_iff (v : Variant) (ch : ChCode) : isTemp v ch = true ↔ v = .a ∧ ch = 2#2 := by
  cases v <;> revert ch <;> decide

/-- A transition crosses exactly when the two codes differ in being the temperature channel. -/
theorem crossing_iff_not_isTemp_iff (v : Variant) (old new : ChCode) :
    crossing v old new = true ↔ ¬(isTemp v old = true ↔ isTemp v new = true) := by
  rw [crossing, bne_iff_ne, ne_eq, Bool.eq_iff_iff]

/-- Settles O7: a crossing is one end at TEMP and the other not; variant B has no TEMP, and variant A has it at 2'b10. -/
theorem crossingMeansExactlyOneIsTemp : Obligations.CrossingMeansExactlyOneIsTemp := by
  unfold Obligations.CrossingMeansExactlyOneIsTemp
  intro v old new
  rw [crossing_iff_not_isTemp_iff, isTemp_iff, isTemp_iff]
  cases v with
  | a => simp only [true_and]; tauto
  | b => simp

end Sys2Proof.Machine
end

section
/-!
The micro-operations one by one (40_line_controller.md R110 to R117): the next state where no line access fails, and the
one exception where it does.
-/

namespace Sys2Proof.Machine

theorem microStep_of_failed_access (op : MicroOp) (s : State) (a : Line × AccessKind) (ha : op.access = some a)
    (he : s.now.lineErr = true) : microStep op s = s.takeLineFault a.1 a.2 := by
  rcases microStep_cases op s with ⟨-, b, hb, h⟩ | ⟨rfl, -⟩ | ⟨rfl, -⟩ | ⟨h, -⟩
  · cases ha.symm.trans hb
    exact h
  · cases ha
  · cases ha
  · simp [he, ha] at h

theorem microStep_drv (l : OutLine) (v : Level) (s : State) (he : s.now.lineErr = false) :
    microStep (.drv l v) s = ((s.setLineReg l v).emit (.drv l v)).nextUpc := by
  simp [microStep, drive, he]

theorem microStep_startAcquire (s : State) (he : s.now.lineErr = false) :
    microStep .startAcquire s =
      { ((s.setLineReg .sclk false).emit (.drv .sclk false)).nextUpc with acc := 0#32 } := by
  simp [microStep, startAcquire, he]

theorem microStep_waitLow_low (s : State) (he : s.now.lineErr = false) (hd : s.now.dout = false) :
    microStep .waitLow s = (s.emit .waited).nextUpc := by
  simp [microStep, waitLow, State.sample, he, hd]

theorem microStep_waitLow_high (s : State) (he : s.now.lineErr = false) (hd : s.now.dout = true) :
    microStep .waitLow s = s := by
  simp [microStep, waitLow, State.sample, he, hd]

theorem microStep_shiftIn (s : State) (he : s.now.lineErr = false) :
    microStep .shiftIn s =
      { (s.emit (.smp s.now.dout)).nextUpc with acc := shiftInto s.acc s.now.dout } := by
  simp [microStep, shiftIn, State.sample, he]

theorem microStep_qry (l : SelLine) (s : State) (he : s.now.lineErr = false) :
    microStep (.qry l) s = (s.emit (.qry l (s.lastDriven l))).nextUpc := by
  simp [microStep, query, he]

theorem microStep_dly (n : Nat) (s : State) : microStep (.dly n) s = (s.emit (.dly n)).nextUpc := rfl

end Sys2Proof.Machine
end

section
/-!
Where the special micro-operations stand: the channel change is READ's, at the indices of 43_read_settling.md R171.
-/

namespace Sys2Proof.Machine

theorem commandOf_eq_read_iff (w : Cmd) (ch : ChCode) :
    commandOf w = .read ch ↔ opField w = 3#2 ∧ chField w = ch := by
  revert w ch; decide

/-- The micro-operations that change nothing but the clock and power-down registers, ACC, the position and the trace;
every acquisition and lifecycle command is made of them, up to its completion step. -/
def MicroOp.isPlain (op : MicroOp) : Bool :=
  match op with
  | .drv .sclk _ => true
  | .drv .pdwn _ => true
  | .drv .sel0 _ => false
  | .drv .sel1 _ => false
  | .startAcquire => true
  | .waitLow => true
  | .shiftIn => true
  | .dly _ => true
  | .qry _ => false
  | .cmp _ => false
  | .settle => false
  | .finish => false
  | .finishRead => false

theorem isPlain_acquireOp (n : Nat) : (acquireOp n).isPlain = true := by
  rcases acquireOp_cases n with h | h | h | ⟨v, h⟩ | h | h <;> rw [h] <;> rfl

theorem isPlain_or_finish_of_ne_read (i : Instr) (n : Nat) (op : MicroOp) (hi : ∀ ch, i ≠ .read ch)
    (h : microProgram i n = some op) : op.isPlain = true ∨ op = .finish := by
  cases i with
  | reset ch =>
    rcases resetProgram_cases n op h with ⟨-, rfl⟩ | ⟨-, rfl⟩ | ⟨-, rfl⟩ | ⟨-, rfl⟩ | ⟨-, rfl⟩ <;>
      simp [MicroOp.isPlain]
  | calofs ch =>
    rcases calofsProgram_cases n op h with ⟨-, rfl⟩ | ⟨-, rfl⟩ | ⟨-, rfl⟩ | ⟨-, rfl⟩ | ⟨-, rfl⟩ | ⟨-, rfl⟩
    · exact .inl (isPlain_acquireOp n)
    all_goals simp [MicroOp.isPlain]
  | standby ch =>
    rcases standbyProgram_cases n op h with ⟨-, rfl⟩ | ⟨-, rfl⟩ | ⟨-, rfl⟩ | ⟨-, rfl⟩ <;> simp [MicroOp.isPlain]
  | read ch => exact absurd rfl (hi ch)

/-- A plain micro-operation without a failed access: a high poll changes nothing, every other moves on by one and adds
an event; only the clear of ACC and SHIFTIN write ACC, and only SHIFTIN samples. -/
theorem microStep_isPlain (op : MicroOp) (s : State) (hp : op.isPlain = true)
    (he : op.access = none ∨ s.now.lineErr = false) :
    (op = .waitLow ∧ microStep op s = s) ∨
    ∃ sclk pdwn acc e, microStep op s =
        { s with sclkQ := sclk, pdwnQ := pdwn, acc := acc, upc := s.upc + 1, trace := s.trace ++ [e] } ∧
      (op ≠ .startAcquire → op ≠ .shiftIn → acc = s.acc ∧ e.sampled = none) := by
  cases op with
  | drv l v =>
    rw [microStep_drv l v s (he.resolve_left nofun)]
    cases l with
    | sclk => exact .inr ⟨v, s.pdwnQ, s.acc, .drv .sclk v, rfl, fun _ _ => ⟨rfl, rfl⟩⟩
    | pdwn => exact .inr ⟨s.sclkQ, v, s.acc, .drv .pdwn v, rfl, fun _ _ => ⟨rfl, rfl⟩⟩
    | sel0 => cases hp
    | sel1 => cases hp
  | startAcquire =>
    exact .inr ⟨false, s.pdwnQ, 0#32, .drv .sclk false, microStep_startAcquire s (he.resolve_left nofun),
      fun h _ => absurd rfl h⟩
  | waitLow =>
    have he := he.resolve_left nofun
    cases hd : s.now.dout with
    | false =>
      exact .inr ⟨s.sclkQ, s.pdwnQ, s.acc, .waited, microStep_waitLow_low s he hd, fun _ _ => ⟨rfl, rfl⟩⟩
    | true => exact .inl ⟨rfl, microStep_waitLow_high s he hd⟩
  | shiftIn =>
    exact .inr ⟨s.sclkQ, s.pdwnQ, shiftInto s.acc s.now.dout, .smp s.now.dout,
      microStep_shiftIn s (he.resolve_left nofun), fun _ h => absurd rfl h⟩
  | dly n => exact .inr ⟨s.sclkQ, s.pdwnQ, s.acc, .dly n, rfl, fun _ _ => ⟨rfl, rfl⟩⟩
  | qry l => cases hp
  | cmp ch => cases hp
  | settle => cases hp
  | finish => cases hp
  | finishRead => cases hp

/-- In READ the plain micro-operations are those of its acquisitions. -/
theorem acquire_of_isPlain_read (ch : ChCode) (n : Nat) (op : MicroOp) (h : readProgram ch n = some op)
    (hp : op.isPlain = true) : 6 ≤ n ∧ n < 756 ∧ op = acquireOp ((n - 6) % 150) := by
  rcases readProgram_cases ch n op h with
    ⟨-, rfl⟩ | ⟨-, rfl⟩ | ⟨-, rfl⟩ | ⟨-, rfl⟩ | ⟨-, rfl⟩ | ⟨-, rfl⟩ | hacq | ⟨-, rfl⟩
  case inr.inr.inr.inr.inr.inr.inl => exact hacq
  all_goals cases hp

end Sys2Proof.Machine
end

section
/-!
The invariant of the engine, kept by every kind of step (10_state.md R25 to R42, 42_channel_select.md R150, R157).
-/

namespace Sys2Proof.Machine

/-- The position may move on, in READ on the same side of the channel change, past it only as DISC allows. -/
theorem State.Inv.moveTo {s : State} (h : s.Inv) (hs : s.seq = .run) (u : Nat)
    (hu : u ≤ endIndex (commandOf s.cmdQ))
    (hread : opField s.cmdQ = 3#2 →
      s.upc < 3 ∧ u < 3 ∨ 5 ≤ s.upc ∧ 6 ≤ u ∧ (u < lastAcquire → s.disc = true)) :
    State.Inv { s with upc := u } := by
  obtain ⟨hseq, hflag, ⟨hlegal, -⟩, ⟨-, hcause⟩, hres, hsel, hseld, hchg, hchg0⟩ := h
  refine ⟨hseq, hflag, ⟨hlegal, hu⟩, ⟨fun hf => ?_, hcause⟩, hres, fun hf => ?_, fun hf ho hp => ?_,
    fun ⟨_, ho, h3⟩ => ?_, fun _ h3 => ?_⟩
  · simp [hs] at hf
  · have h4 : ¬(opField s.cmdQ = 3#2 ∧ s.upc = 4) ∧ ¬(opField s.cmdQ = 3#2 ∧ u = 4) := by
      constructor <;> rintro ⟨ho, h4⟩ <;> have := hread ho <;> omega
    simpa [State.SelectInv, hs, h4] using hsel
  · have hu5 : 5 ≤ u := hp hs
    have := hread ho
    exact hseld hf ho fun _ => by omega
  · have hu3 : 3 ≤ u := h3
    obtain ⟨h5, h6, hd⟩ := (hread ho).resolve_left (by omega)
    obtain ⟨hc, hdc, -⟩ := hchg ⟨hs, ho, by omega⟩
    exact ⟨hc, hdc, fun (hu5 : u ≤ 5) => by omega, fun _ => hd⟩
  · have h3' : opField s.cmdQ ≠ 3#2 ∨ u < 3 := h3
    by_cases ho : opField s.cmdQ = 3#2
    · have := hread ho
      have := h3'.resolve_left (not_not.mpr ho)
      exact hchg0 hs (.inr (by omega))
    · exact hchg0 hs (.inl ho)

/-- While a command runs, its outcome flags DONE, RVALID and REJ are clear. -/
theorem State.Inv.flags_of_run {s : State} (h : s.Inv) (hs : s.seq = .run) :
    s.done = false ∧ s.rvalid = false ∧ s.rej = false := by
  obtain ⟨-, ⟨hdone, hrv, hrej, -⟩, -⟩ := h
  have hd : s.done = false := by
    by_contra hc
    simpa [hs] using hdone (by simpa using hc)
  refine ⟨hd, ?_, ?_⟩
  · by_contra hc
    simpa [hd] using hrv (by simpa using hc)
  · by_contra hc
    simpa [hs] using (hrej (by simpa using hc)).1

theorem inv_takeLineFault {s : State} (h : s.Inv) (hs : s.seq = .run) (op : MicroOp) (a : Line × AccessKind)
    (hop : s.currentOp = some op) (ha : op.access = some a) : (s.takeLineFault a.1 a.2).Inv := by
  obtain ⟨hd, hv, hj⟩ := h.flags_of_run hs
  obtain ⟨-, ⟨-, -, -, hdisc⟩, hupc, -, hres, -⟩ := h
  have hop' : (s.takeLineFault a.1 a.2).currentOp = some op := hop
  refine ⟨?_, ?_, hupc, ?_, hres, ?_, ?_, ?_⟩
  · simp [State.SeqInv]
  · simpa [State.FlagInv, hd, hv, hj] using hdisc
  · simp [State.CauseInv, hop', ha]
  · simp [State.SelectInv]
  · simp [State.SelectedInv]
  · simp [State.ChangeInv]

/-- Completion writes SEQ, BUSY and DONE; past the channel change the rest of the invariant does not look at them. -/
theorem inv_complete {s : State} (h : s.Inv) (hs : s.seq = .run)
    (hp : opField s.cmdQ = 3#2 → 5 ≤ s.upc) : (complete s).Inv := by
  obtain ⟨hd, hv, hj⟩ := h.flags_of_run hs
  obtain ⟨⟨-, hfault⟩, ⟨-, -, -, hdisc⟩, hupc, ⟨-, hcause⟩, hres, hsel, hseld, -⟩ := h
  have h4 : ¬(opField s.cmdQ = 3#2 ∧ s.upc = 4) := fun ⟨ho, h4⟩ => by have := hp ho; omega
  refine ⟨?_, ?_, hupc, ?_, hres, ?_, ?_, ?_⟩
  · simpa [State.SeqInv, complete, hs] using hfault
  · simpa [State.FlagInv, complete, hj] using hdisc
  · simpa [State.CauseInv, complete, hs] using hcause
  · simpa [State.SelectInv, complete, hs, h4] using hsel
  · exact fun _ ho _ => hseld (by simp [hs]) ho fun _ => hp ho
  · simp [State.ChangeInv, complete]

theorem extractLsb'_signExtend_self (u : BitVec 24) : (u.signExtend 32).extractLsb' 0 24 = u := by
  apply BitVec.eq_of_getLsbD_eq
  intro i hi
  rw [BitVec.getLsbD_extractLsb', BitVec.getLsbD_signExtend]
  simp [hi, show i < 32 by omega]

theorem sext24to32_signExtended (v : Word) : sext24to32 v = ((sext24to32 v).extractLsb' 0 24).signExtend 32 := by
  rw [sext24to32_eq_signExtend, extractLsb'_signExtend_self]

/-- READ's completion adds RESULT, sign-extended, and RVALID to completion. -/
theorem inv_completeRead {s : State} (h : (complete s).Inv) : (completeRead s).Inv := by
  obtain ⟨hseq, ⟨hdone, -, hrej, hdisc⟩, hupc, hcause, -, hsel, hseld, hchg⟩ := h
  exact ⟨hseq, ⟨hdone, fun _ => rfl, hrej, hdisc⟩, hupc, hcause, sext24to32_signExtended s.acc, hsel, hseld, hchg⟩

theorem variant_a_of_crossing (v : Variant) (old new : ChCode) (h : crossing v old new = true) : v = .a :=
  ((crossingMeansExactlyOneIsTemp v old new).mp h).1

/-- CMP records the selected channel and what the comparison found; where nothing changes the selected channel is the
requested one. -/
theorem inv_compareChannel {s : State} (h : s.Inv) (hs : s.seq = .run) (ch : ChCode)
    (hc : commandOf s.cmdQ = .read ch) (hp : s.upc = 2) : (compareChannel ch s).Inv := by
  obtain ⟨hd, hv, hj⟩ := h.flags_of_run hs
  obtain ⟨hseq, -, ⟨hlegal, -⟩, ⟨-, hcause⟩, hres, hsel, -⟩ := h
  obtain ⟨ho, rfl⟩ := (commandOf_eq_read_iff _ _).mp hc
  have hcau : s.faultCause = 0#5 := hcause (by simp [hs])
  have hsel' : s.variant = .a → (s.sel0Q && s.sel1Q) = false := by simpa [State.SelectInv, hs, hp] using hsel
  rcases compareChannel_cases (chField s.cmdQ) s with ⟨heq, h⟩ | ⟨hne, h⟩ <;> rw [h]
  · refine ⟨hseq, ?_, ⟨hlegal, ?_⟩, ?_, hres, ?_, ?_, ?_⟩
    · simp [State.FlagInv, hd, hv, hj]
    · simp [hc, endIndex, lastAcquire]
    · simp [State.CauseInv, hs, hcau]
    · simpa [State.SelectInv, lastAcquire] using fun _ => hsel'
    · exact fun _ _ _ => heq
    · simp [State.ChangeInv, ho, lastAcquire]
  · refine ⟨hseq, ?_, ⟨hlegal, ?_⟩, ?_, hres, ?_, ?_, ?_⟩
    · simpa [State.FlagInv, hd, hv, hj] using variant_a_of_crossing _ _ _
    · simp [hc, endIndex]
    · simp [State.CauseInv, hs, hcau]
    · simpa [State.SelectInv] using fun _ => hsel'
    · simp [State.SelectedInv, hs]
    · simp [State.ChangeInv, ho, hne]

/-- The first drive of a change: SEL0 has its new level. -/
theorem inv_driveSel0 {s : State} (h : s.Inv) (hs : s.seq = .run) (ch : ChCode)
    (hc : commandOf s.cmdQ = .read ch) (hp : s.upc = 3) :
    State.Inv { s with sel0Q := sel0Level ch, upc := s.upc + 1 } := by
  obtain ⟨hseq, hflag, ⟨hlegal, -⟩, ⟨-, hcause⟩, hres, -, -, hchg, -⟩ := h
  obtain ⟨ho, rfl⟩ := (commandOf_eq_read_iff _ _).mp hc
  obtain ⟨hc1, hd1, h5, -⟩ := hchg ⟨hs, ho, by omega⟩
  refine ⟨hseq, hflag, ⟨hlegal, ?_⟩, ⟨?_, hcause⟩, hres, ?_, ?_, ⟨fun _ => ?_, ?_⟩⟩
  · simp [hc, endIndex, hp]
  · simp [hs]
  · simp [State.SelectInv, hs, ho, hp]
  · simp [State.SelectedInv, hs, hp]
  · exact ⟨hc1, hd1, fun _ => h5 (by omega), by simp [hp]⟩
  · simp [ho, hp]

theorem legal_levels (v : Variant) (ch : ChCode) (h : (Instr.read ch).wellFormed v = true) :
    (v = .a → (sel0Level ch && sel1Level ch) = false) ∧ channelOfLevels v (sel1Level ch) (sel0Level ch) = ch := by
  cases v <;> revert ch <;> decide

/-- The second drive of a change: the requested channel is selected. -/
theorem inv_driveSel1 {s : State} (h : s.Inv) (hs : s.seq = .run) (ch : ChCode)
    (hc : commandOf s.cmdQ = .read ch) (hp : s.upc = 4) :
    State.Inv { s with sel1Q := sel1Level ch, upc := s.upc + 1 } := by
  obtain ⟨hseq, hflag, ⟨hlegal, -⟩, ⟨-, hcause⟩, hres, hsel, -, hchg, -⟩ := h
  obtain ⟨ho, rfl⟩ := (commandOf_eq_read_iff _ _).mp hc
  obtain ⟨hc1, hd1, h5, -⟩ := hchg ⟨hs, ho, by omega⟩
  have h0 : s.sel0Q = sel0Level (chField s.cmdQ) := by simpa [State.SelectInv, hs, ho, hp] using hsel
  obtain ⟨hlow, hback⟩ := legal_levels s.variant (chField s.cmdQ) (hc ▸ hlegal)
  refine ⟨hseq, hflag, ⟨hlegal, ?_⟩, ⟨?_, hcause⟩, hres, ?_, ?_, ⟨fun _ => ?_, ?_⟩⟩
  · simp [hc, endIndex, hp]
  · simp [hs]
  · simpa [State.SelectInv, h0, hp] using fun _ => hlow
  · exact fun _ _ _ => by simpa [State.selectedChannel, h0] using hback
  · exact ⟨hc1, hd1, fun _ => h5 (by omega), by simp [hp]⟩
  · simp [ho, hp]

/-- A plain micro-operation without a failed access, wherever it stands. -/
theorem inv_plain {s : State} (h : s.Inv) (hs : s.seq = .run) (op : MicroOp)
    (hop : microProgram (commandOf s.cmdQ) s.upc = some op) (hp : op.isPlain = true)
    (he : op.access = none ∨ s.now.lineErr = false) : (microStep op s).Inv := by
  obtain ⟨-, -, ⟨-, hupc⟩, -, -, -, -, hchg, -⟩ := id h
  rcases microStep_isPlain op s hp he with ⟨-, hm⟩ | ⟨_, _, _, _, hm, -⟩
  · rw [hm]; exact h
  · have hend : s.upc ≠ endIndex (commandOf s.cmdQ) := fun hn => by
      rcases (microProgram_finish_iff _ _ _ hop).mpr hn with rfl | rfl <;> cases hp
    rw [hm]
    refine (h.moveTo hs (s.upc + 1) (by omega) fun ho => .inr ?_ : State.Inv { s with upc := s.upc + 1 })
    rw [(commandOf_eq_read_iff _ _).mpr ⟨ho, rfl⟩] at hop
    obtain ⟨h6, -⟩ := acquire_of_isPlain_read _ _ _ hop hp
    obtain ⟨-, -, -, hdisc⟩ := hchg ⟨hs, ho, by omega⟩
    exact ⟨by omega, by omega, fun hl => hdisc h6 (by omega)⟩

/-- READ's own micro-operations: queries, CMP, drives, the settling delay, its acquisitions, its completion. -/
theorem inv_microStep_read {s : State} (h : s.Inv) (hs : s.seq = .run) (ch : ChCode)
    (hc : commandOf s.cmdQ = .read ch) (op : MicroOp) (hop : readProgram ch s.upc = some op)
    (he : op.access = none ∨ s.now.lineErr = false) : (microStep op s).Inv := by
  have hend : endIndex (commandOf s.cmdQ) = 756 := by rw [hc]; rfl
  rcases readProgram_cases _ _ _ hop with
    ⟨hp, rfl⟩ | ⟨hp, rfl⟩ | ⟨hp, rfl⟩ | ⟨hp, rfl⟩ | ⟨hp, rfl⟩ | ⟨hp, rfl⟩ | ⟨-, -, hacq⟩ | ⟨hp, rfl⟩
  · rw [microStep_qry _ s (he.resolve_left nofun)]
    exact h.moveTo hs (s.upc + 1) (by omega) fun _ => by omega
  · rw [microStep_qry _ s (he.resolve_left nofun)]
    exact h.moveTo hs (s.upc + 1) (by omega) fun _ => by omega
  · exact inv_compareChannel h hs _ hc hp
  · rw [microStep_drv _ _ s (he.resolve_left nofun)]
    exact inv_driveSel0 h hs _ hc hp
  · rw [microStep_drv _ _ s (he.resolve_left nofun)]
    exact inv_driveSel1 h hs _ hc hp
  · rcases settle_cases s with ⟨hd, hm⟩ | ⟨-, hm⟩ <;> rw [microStep, hm]
    · exact h.moveTo hs 6 (by omega) fun _ => .inr ⟨by omega, by omega, fun _ => hd⟩
    · exact h.moveTo hs lastAcquire (by rw [hend]; decide) fun _ => .inr ⟨by omega, by decide, fun hl => by omega⟩
  · exact inv_plain h hs op (by rw [hc]; exact hop) (hacq ▸ isPlain_acquireOp _) he
  · exact inv_completeRead (inv_complete h hs fun _ => by omega)

/-- Every micro-operation of the command in flight keeps the invariant. -/
theorem inv_microStep {s : State} (h : s.Inv) (hs : s.seq = .run) (op : MicroOp) (hop : s.currentOp = some op) :
    (microStep op s).Inv := by
  rcases Decidable.em (op.access = none ∨ s.now.lineErr = false) with he | hfail
  · by_cases hread : ∃ ch, commandOf s.cmdQ = .read ch
    · obtain ⟨ch, hc⟩ := hread
      exact inv_microStep_read h hs ch hc op (by simpa [State.currentOp, hc, microProgram] using hop) he
    · rcases isPlain_or_finish_of_ne_read _ _ op (not_exists.mp hread) hop with hp | rfl
      · exact inv_plain h hs op hop hp he
      · exact inv_complete h hs fun ho => absurd ⟨_, (commandOf_eq_read_iff _ _).mpr ⟨ho, rfl⟩⟩ hread
  · obtain ⟨hacc, he⟩ := not_or.mp hfail
    obtain ⟨a, ha⟩ := Option.ne_none_iff_exists'.mp hacc
    rw [microStep_of_failed_access op s a ha (by simpa using he)]
    exact inv_takeLineFault h hs op a hop ha

/-- Rejection happens to an idle engine and writes flags only. -/
theorem inv_reject {s : State} (h : s.Inv) (hs : s.seq = .idle) : s.reject.Inv := by
  obtain ⟨hseq, -, hupc, hcause, hres, hsel, hseld, -⟩ := h
  refine ⟨hseq, ?_, hupc, hcause, hres, hsel, hseld, ?_⟩
  · simp [State.FlagInv, hs]
  · simp [State.ChangeInv, hs]

/-- Acceptance of a legal word puts an idle engine at index 0 of its micro-program. -/
theorem inv_accept {s : State} (h : s.Inv) (hs : s.seq = .idle) (w : Cmd)
    (hw : (commandOf w).wellFormed s.variant = true) : (s.accept w).Inv := by
  obtain ⟨⟨-, hfault⟩, -, -, ⟨-, hcause⟩, hres, hsel, -, -⟩ := h
  refine ⟨?_, ?_, ⟨hw, Nat.zero_le _⟩, ?_, hres, ?_, ?_, ?_⟩
  · simpa [State.SeqInv, hs] using hfault
  · simp [State.FlagInv]
  · simpa [State.CauseInv, hs] using hcause
  · simpa [State.SelectInv, hs] using hsel
  · simp [State.SelectedInv]
  · simp [State.ChangeInv]

/-- Settles O47: every clause is read off the reset table. -/
theorem resetMeetsTheEngineInvariant : Obligations.ResetMeetsTheEngineInvariant := by
  unfold Obligations.ResetMeetsTheEngineInvariant
  intro v
  refine ⟨?_, ?_, ?_, ?_, ?_, ?_, ?_, ?_⟩ <;> cases v <;> decide

/-- Settles O48: engine reset gives the reset values, holding changes nothing the invariant reads, rejection and
acceptance write flags only from an idle engine, and a running engine plays a micro-operation of its command. -/
theorem stepKeepsTheEngineInvariant : Obligations.StepKeepsTheEngineInvariant := by
  unfold Obligations.StepKeepsTheEngineInvariant
  intro s t h hstep
  rcases step_cases s t hstep with
    ⟨-, rfl⟩ | ⟨-, ⟨-, -, rfl⟩ | ⟨hs, -, -, rfl⟩ | ⟨hs, -, hw, rfl⟩ | ⟨-, rfl⟩ | ⟨hs, op, hop, rfl⟩⟩
  · exact resetMeetsTheEngineInvariant s.variant
  · exact h
  · exact inv_reject (s := s) h hs
  · exact inv_accept (s := s) h hs _ hw
  · exact h
  · exact inv_microStep h hs op hop

end Sys2Proof.Machine
end

section
/-!
What one step is in each state of the sequencer (30_encoding.md R92, 60_exceptions.md R213, R219,
70_reset_and_hazards.md R240), and what a micro-operation sees of the input ports.
-/

namespace Sys2Proof.Machine

/-! ## One step -/

theorem step_of_rstN_low (s : State) (hr : s.now.rstN = false) : step s = .next s.engineReset.advance := by
  simp [step, State.move, hr, afterInstant]

theorem step_of_faulted (s : State) (hr : s.now.rstN = true) (hs : s.seq = .faulted) : step s = .next s.advance := by
  simp [step, State.move, hr, hs, afterInstant]

theorem step_of_idle_empty_port (s : State) (hr : s.now.rstN = true) (hs : s.seq = .idle)
    (hv : s.now.cmdValid = false) : step s = .next s.advance := by
  simp [step, State.move, hr, hs, hv, afterInstant]

theorem step_of_idle_command (s : State) (hr : s.now.rstN = true) (hs : s.seq = .idle) (hv : s.now.cmdValid = true)
    (i : Instr) (hd : decode s.variant s.now.cmd = .ok i) : step s = afterInstant (exec i s) := by
  simp [step, State.move, hr, hs, hv, hd]

theorem step_of_run (s : State) (hr : s.now.rstN = true) (hs : s.seq = .run) :
    step s = afterInstant (exec (commandOf s.cmdQ) s) := by
  simp [step, State.move, hr, hs]

theorem exec_of_idle_legal (i : Instr) (s : State) (hs : s.seq = .idle) (hw : i.wellFormed s.variant = true) :
    exec i s = .next (s.accept (encode i)) := by
  rw [exec_of_idle i s hs, State.present, if_pos hw]

theorem exec_of_idle_illegal (i : Instr) (s : State) (hs : s.seq = .idle) (hw : i.wellFormed s.variant = false) :
    exec i s = .next s.reject := by
  rw [exec_of_idle i s hs, State.present, if_neg (by simp [hw])]

theorem step_of_legal_word (s : State) (hr : s.now.rstN = true) (hs : s.seq = .idle) (hv : s.now.cmdValid = true)
    (hw : (commandOf s.now.cmd).wellFormed s.variant = true) : step s = .next (s.accept s.now.cmd).advance := by
  rw [step_of_idle_command s hr hs hv _ ((decode_ok_iff_commandOf _ _ _).mpr ⟨rfl, hw⟩), exec_of_idle_legal _ s hs hw,
    encode_commandOf]
  rfl

theorem step_of_illegal_word (s : State) (hr : s.now.rstN = true) (hs : s.seq = .idle) (hv : s.now.cmdValid = true)
    (hw : (commandOf s.now.cmd).wellFormed s.variant = false) : step s = .next s.reject.advance := by
  simp [step, State.move, hr, hs, hv, decode, hw, afterInstant]

theorem step_of_currentOp (s : State) (hr : s.now.rstN = true) (hs : s.seq = .run) (op : MicroOp)
    (hop : s.currentOp = some op) : step s = .next (microStep op s).advance := by
  rw [step_of_run s hr hs, exec_of_run _ s op hs hop]
  rfl

/-! ## The input ports of a micro-operation -/

/-- A micro-operation sees of the inputs only the line error and DOUT, and these only where it accesses a line. -/
theorem microStep_with_env (op : MicroOp) (s : State) (env : List Inputs)
    (h : op.access = none ∨ (State.now { s with env := env }).lineErr = s.now.lineErr ∧
      (State.now { s with env := env }).dout = s.now.dout) :
    microStep op { s with env := env } = { microStep op s with env := env } := by
  cases op with
  | drv l v =>
    simp only [microStep, drive, (h.resolve_left nofun).1]
    cases l <;> split <;> rfl
  | startAcquire =>
    simp only [microStep, startAcquire, (h.resolve_left nofun).1]
    split <;> rfl
  | waitLow =>
    simp only [microStep, waitLow, State.sample, h.resolve_left nofun]
    cases s.now.lineErr <;> cases s.now.dout <;> rfl
  | shiftIn =>
    simp only [microStep, shiftIn, State.sample, h.resolve_left nofun]
    cases s.now.lineErr <;> rfl
  | qry l =>
    simp only [microStep, query, (h.resolve_left nofun).1]
    split <;> rfl
  | dly n => rfl
  | cmp ch => rfl
  | settle => rfl
  | finish => rfl
  | finishRead => rfl

/-! ## What a micro-operation leaves as it is -/

/-- The frame of a micro-operation from `s` to `t`: each field it may write only as the operation allows. -/
structure MicroOp.Frame (op : MicroOp) (s t : State) : Prop where
  variant : t.variant = s.variant
  env : t.env = s.env
  draws : t.draws = s.draws
  cmdQ : t.cmdQ = s.cmdQ
  rej : t.rej = s.rej
  result : op ≠ .finishRead → t.result = s.result ∧ t.rvalid = s.rvalid
  change : (∀ ch, op ≠ .cmp ch) → t.prevCh = s.prevCh ∧ t.chg = s.chg ∧ t.disc = s.disc
  acc : op ≠ .startAcquire → op ≠ .shiftIn → t.acc = s.acc
  fault : op.access = none ∨ s.now.lineErr = false → t.fault = s.fault ∧ t.faultCause = s.faultCause

theorem microStep_frame (op : MicroOp) (s : State) : op.Frame s (microStep op s) := by
  cases op with
  | drv l v =>
    rcases drive_cases l v s with ⟨he, h⟩ | ⟨-, h⟩ <;> constructor <;> simp_all [microStep, MicroOp.access]
  | startAcquire =>
    rcases startAcquire_cases s with ⟨he, h⟩ | ⟨-, h⟩ <;> constructor <;> simp_all [microStep, MicroOp.access]
  | waitLow =>
    rcases waitLow_cases s with ⟨he, h⟩ | ⟨-, -, h⟩ | ⟨-, -, h⟩ <;> constructor <;>
      simp_all [microStep, MicroOp.access]
  | shiftIn =>
    rcases shiftIn_cases s with ⟨he, h⟩ | ⟨-, h⟩ <;> constructor <;> simp_all [microStep, MicroOp.access]
  | qry l => rcases query_cases l s with ⟨he, h⟩ | ⟨-, h⟩ <;> constructor <;> simp_all [microStep, MicroOp.access]
  | dly n => constructor <;> simp [microStep, delay]
  | cmp ch => rcases compareChannel_cases ch s with ⟨-, h⟩ | ⟨-, h⟩ <;> constructor <;> simp [microStep, h]
  | settle => rcases settle_cases s with ⟨-, h⟩ | ⟨-, h⟩ <;> constructor <;> simp [microStep, h]
  | finish => constructor <;> simp [microStep, complete]
  | finishRead => constructor <;> simp [microStep, completeRead, complete]

theorem Seq.run_or_faulted_of_ne_idle (q : Seq) (h : q ≠ .idle) : q = .run ∨ q = .faulted := by
  cases q <;> simp_all

/-- Unless the engine is idle, a step sees of the inputs only rst_n, the line error and DOUT. -/
theorem step_with_env (s : State) (env : List Inputs) (hs : s.seq ≠ .idle)
    (hr : (State.now { s with env := env }).rstN = s.now.rstN)
    (hn : (State.now { s with env := env }).lineErr = s.now.lineErr ∧
      (State.now { s with env := env }).dout = s.now.dout)
    (htail : env.tail = s.env.tail) (hempty : env.isEmpty = s.env.isEmpty) :
    step { s with env := env } = step s := by
  have hadv (t : State) (ht : t.env = s.env) : State.advance { t with env := env } = t.advance := by
    simp [State.advance, ht, htail, hempty]
  cases h : s.now.rstN with
  | false =>
    rw [step_of_rstN_low s h, step_of_rstN_low _ (hr.trans h)]
    exact congrArg _ (hadv s.engineReset rfl)
  | true =>
    rcases Seq.run_or_faulted_of_ne_idle s.seq hs with hseq | hseq
    · rw [step_of_run s h hseq, step_of_run _ (hr.trans h) hseq]
      cases hop : microProgram (commandOf s.cmdQ) s.upc with
      | none => simp [exec_eq_commandStep, commandStep, hseq, hop]
      | some op =>
        have hexec : exec (commandOf s.cmdQ) { s with env := env } = .next (microStep op { s with env := env }) :=
          exec_of_run _ _ op hseq hop
        rw [hexec, exec_of_run _ s op hseq hop, microStep_with_env op s env (.inr hn)]
        exact congrArg Host.Outcome.next (hadv (microStep op s) (microStep_frame op s).env)
    · rw [step_of_faulted s h hseq, step_of_faulted _ (hr.trans h) hseq]
      exact congrArg _ (hadv s rfl)

/-- Settles O15: of what the port shows the two inputs differ only in the command. -/
theorem commandPortIsIgnoredUnlessIdle : Obligations.CommandPortIsIgnoredUnlessIdle := by
  unfold Obligations.CommandPortIsIgnoredUnlessIdle
  intro s x rest valid w hs henv
  refine step_with_env s _ hs ?_ ⟨?_, ?_⟩ ?_ ?_ <;> simp [henv, State.now]

/-- Settles O9: the step is engine reset and the passing of the instant. -/
theorem engineResetOverridesEverything : Obligations.EngineResetOverridesEverything := by
  unfold Obligations.EngineResetOverridesEverything
  intro s hr
  rw [step_of_rstN_low s hr]
  rfl

/-- Settles O10: with a decoded word, or a command in flight, the step is `exec` and the passing of the instant. -/
theorem stepRunsTheDecodedCommand : Obligations.StepRunsTheDecodedCommand := by
  unfold Obligations.StepRunsTheDecodedCommand
  intro s hr
  refine ⟨fun i hs hv hd => ?_, fun hs => ?_, step_of_idle_empty_port s hr⟩
  · rw [step_of_idle_command s hr hs hv i hd]
    exact ⟨fun t ht => by rw [ht]; rfl, fun r hf => by rw [hf]; rfl⟩
  · rw [step_of_run s hr hs]
    exact ⟨fun t ht => by rw [ht]; rfl, fun r hf => by rw [hf]; rfl⟩

/-- Settles O12: `exec` presents the command, and a legal one is accepted. -/
theorem idleEngineAcceptsEveryLegalCommand : Obligations.IdleEngineAcceptsEveryLegalCommand := by
  unfold Obligations.IdleEngineAcceptsEveryLegalCommand
  intro i s hs hw
  rw [exec_of_idle_legal i s hs hw]
  rfl

/-- Settles O13: READ of channel 3, and the word 4'hF which names it, are illegal in variant A. -/
theorem illegalWordIsRejected : Obligations.IllegalWordIsRejected := by
  unfold Obligations.IllegalWordIsRejected
  intro s hs hv
  refine ⟨?_, fun hr hvalid hcmd => ?_⟩
  · rw [exec_of_idle_illegal _ s hs (by rw [hv]; rfl)]
    rfl
  · rw [step_of_illegal_word s hr hs hvalid (by rw [hv, hcmd]; rfl)]
    rfl

/-- Settles O14: a halted engine plays nothing and looks at no command port. -/
theorem haltedEngineDoesNothing : Obligations.HaltedEngineDoesNothing := by
  unfold Obligations.HaltedEngineDoesNothing
  intro s hs
  exact ⟨fun i => exec_of_faulted i s hs, fun hr => step_of_faulted s hr hs⟩

/-- A table word that decodes stands for its command's word, in its low four bits. -/
theorem commandOf_of_decodeTableWord (nbits w : Nat) (i : Instr) (h : decodeTableWord nbits w = some i) :
    commandOf (BitVec.ofNat 4 (w % 2 ^ nbits)) = i := by
  have hlow : (BitVec.ofNat 8 (w % 2 ^ nbits)).extractLsb' 0 4 = BitVec.ofNat 4 (w % 2 ^ nbits) := by
    apply BitVec.eq_of_toNat_eq
    simp only [BitVec.extractLsb'_toNat, BitVec.toNat_ofNat, Nat.shiftRight_zero]
    omega
  have hd : decode .b (BitVec.ofNat 4 (w % 2 ^ nbits)) = .ok i := by
    have hbyte : decodeByte .b (BitVec.ofNat 8 (w % 2 ^ nbits)) = .ok i := by
      simp only [decodeTableWord] at h
      split at h
      · split at h
        · cases h; assumption
        · cases h
      · cases h
    unfold decodeByte at hbyte
    split at hbyte
    · exact hlow ▸ hbyte
    · cases hbyte
  exact ((decode_ok_iff_commandOf _ _ _).mp hd).1

/-- Settles O11: `withFetchWord` shows the word to an idle engine with engine reset released, which accepts it. -/
theorem placedWordIsTakenByTheNextStep : Obligations.PlacedWordIsTakenByTheNextStep := by
  unfold Obligations.PlacedWordIsTakenByTheNextStep
  intro s nbits w i hd hw
  have hc := commandOf_of_decodeTableWord nbits w i hd
  refine ⟨exec_of_idle_legal i _ rfl hw, ?_⟩
  rw [step_of_legal_word (s.withFetchWord nbits w) rfl rfl rfl (by exact hc ▸ hw), ← hc, encode_commandOf]
  rfl

/-- Settles O49: the position of a running engine is inside its micro-program, so it names a micro-operation; in every
other state the step is a next state as it stands. -/
theorem engineNeverStopsUnderTheInvariant : Obligations.EngineNeverStopsUnderTheInvariant := by
  unfold Obligations.EngineNeverStopsUnderTheInvariant
  rintro s ⟨-, -, ⟨-, hupc⟩, -⟩
  cases hr : s.now.rstN with
  | false => exact ⟨_, step_of_rstN_low s hr⟩
  | true =>
    cases hs : s.seq with
    | faulted => exact ⟨_, step_of_faulted s hr hs⟩
    | run =>
      obtain ⟨op, hop⟩ := Option.isSome_iff_exists.mp ((microProgram_isSome _ _).mpr hupc)
      exact ⟨_, step_of_currentOp s hr hs op hop⟩
    | idle =>
      cases hv : s.now.cmdValid with
      | false => exact ⟨_, step_of_idle_empty_port s hr hs hv⟩
      | true =>
        cases hw : (commandOf s.now.cmd).wellFormed s.variant with
        | true => exact ⟨_, step_of_legal_word s hr hs hv hw⟩
        | false => exact ⟨_, step_of_illegal_word s hr hs hv hw⟩

end Sys2Proof.Machine
end

section
/-!
The shift-in datapath over a whole sample (41_acquisition.md R134, R139): each level enters at bit 0 and moves up, and
what stood in ACC before moves up ahead of them.
-/

namespace Sys2Proof.Machine

theorem shiftInto_eq_append (acc : Word) (b : Level) : shiftInto acc b = acc.extractLsb' 0 31 ++ BitVec.ofBool b := by
  apply BitVec.eq_of_getLsbD_eq
  intro i hi
  rw [shiftInto_getLsbD acc b i hi, BitVec.getLsbD_append]
  by_cases h0 : i = 0
  · simp [h0]
  · simp [h0, show ¬i < 1 by omega, show i - 1 < 31 by omega]

/-- Bit `i` after a list of levels: one of the levels, the last in bit 0, and above them the old accumulator. -/
theorem shiftAll_getLsbD (levels : List Level) (acc : Word) (i : Nat) (hi : i < 32) :
    (shiftAll acc levels).getLsbD i =
      if i < levels.length then levels.getD (levels.length - 1 - i) false else acc.getLsbD (i - levels.length) := by
  induction levels generalizing acc with
  | nil => rfl
  | cons b bs ih =>
    have hcons : shiftAll acc (b :: bs) = shiftAll (shiftInto acc b) bs := rfl
    rw [hcons, ih, List.length_cons]
    rcases Nat.lt_trichotomy i bs.length with h | h | h
    · rw [if_pos h, if_pos (by omega), show bs.length + 1 - 1 - i = (bs.length - 1 - i) + 1 by omega,
        List.getD_cons_succ]
    · rw [if_neg (by omega), if_pos (by omega), shiftInto_getLsbD _ _ _ (by omega), if_pos (by omega),
        show bs.length + 1 - 1 - i = 0 by omega, List.getD_cons_zero]
    · rw [if_neg (by omega), if_neg (by omega), shiftInto_getLsbD _ _ _ (by omega), if_neg (by omega), Nat.sub_sub]

/-- From a cleared accumulator `n` levels fill the low `n` bits and no others. -/
theorem shiftAll_zero_lt (levels : List Level) : (shiftAll 0#32 levels).toNat < 2 ^ levels.length := by
  apply Nat.lt_pow_two_of_testBit
  intro i hi
  rw [BitVec.testBit_toNat]
  by_cases h32 : i < 32
  · rw [shiftAll_getLsbD levels 0#32 i h32, if_neg (by omega), BitVec.getLsbD_zero]
  · exact BitVec.getLsbD_of_ge _ i (by omega)

theorem shiftAll_extractLsb'_high (acc : Word) (levels : List Level) (h : levels.length = 24) :
    (shiftAll acc levels).extractLsb' 24 8 = acc.extractLsb' 0 8 := by
  apply BitVec.eq_of_getLsbD_eq
  intro i hi
  simp only [BitVec.getLsbD_extractLsb', hi, decide_true, Bool.true_and]
  rw [shiftAll_getLsbD levels acc (24 + i) (by omega), if_neg (by omega), h, Nat.add_sub_cancel_left, Nat.zero_add]

theorem shiftAll_extractLsb'_low (acc acc' : Word) (levels : List Level) (h : levels.length = 24) :
    (shiftAll acc levels).extractLsb' 0 24 = (shiftAll acc' levels).extractLsb' 0 24 := by
  apply BitVec.eq_of_getLsbD_eq
  intro i hi
  simp only [BitVec.getLsbD_extractLsb', hi, decide_true, Bool.true_and, Nat.zero_add]
  rw [shiftAll_getLsbD levels acc i (by omega), shiftAll_getLsbD levels acc' i (by omega), if_pos (by omega),
    if_pos (by omega)]

/-- Settles O46: 24 levels push the old low byte into the high one, which SEXT24 does not read. -/
theorem sampleIsIndependentOfTheOldAccumulator : Obligations.SampleIsIndependentOfTheOldAccumulator := by
  unfold Obligations.SampleIsIndependentOfTheOldAccumulator
  intro acc levels h
  refine ⟨shiftAll_extractLsb'_high acc levels h, ?_⟩
  rw [sext24to32_eq_signExtend, sext24to32_eq_signExtend, shiftAll_extractLsb'_low acc 0#32 levels h]

theorem shiftAll_getLsbD_pulse (acc : Word) (levels : List Level) (h : levels.length = 24) (k : Nat) (hk : k < 24) :
    (shiftAll acc levels).getLsbD (23 - k) = levels.getD k false := by
  rw [shiftAll_getLsbD levels acc (23 - k) (by omega), if_pos (by omega),
    show levels.length - 1 - (23 - k) = k by omega]

end Sys2Proof.Machine
end

section
/-!
The micro-operations' own statements (40_line_controller.md R111 to R117, 43_read_settling.md R173, 60_exceptions.md
R212, R214): the next state written out, where the access goes well and where it fails.
-/

namespace Sys2Proof.Machine

/-- Settles O16: the drive writes its register, whichever of the four it is; a failed one takes the exception. -/
theorem driveWritesItsLineRegisterOnly : Obligations.DriveWritesItsLineRegisterOnly := by
  unfold Obligations.DriveWritesItsLineRegisterOnly
  refine ⟨fun ch => ⟨rfl, rfl⟩, fun s hr => ?_, fun l v s => ⟨fun he => ?_, fun he => ?_⟩⟩
  · simp [State.outputs, hr, State.lineReg]
  · rw [microStep_drv l v s he]
    cases l <;> rfl
  · rw [microStep_of_failed_access _ s (l.line, .drv) rfl he]
    rfl

/-- Settles O17: the level delivered is the register's, which engine reset clears. -/
theorem queryDeliversTheLineRegister : Obligations.QueryDeliversTheLineRegister := by
  unfold Obligations.QueryDeliversTheLineRegister
  refine ⟨fun s => ⟨rfl, rfl⟩, fun s => ⟨fun he => ⟨?_, ?_⟩, fun he => ⟨?_, ?_⟩⟩⟩
  · rw [microStep_qry _ s he]
    rfl
  · rw [microStep_qry _ s he]
    rfl
  · rw [microStep_of_failed_access _ s (.sel0, .qry) rfl he]
    rfl
  · rw [microStep_of_failed_access _ s (.sel1, .qry) rfl he]
    rfl

/-- Settles O18: one step is the datapath's; 24 of them put pulse `k` in bit `23 - k` and stay below bit 24. -/
theorem shiftInShiftsThenTakesTheLevel : Obligations.ShiftInShiftsThenTakesTheLevel := by
  unfold Obligations.ShiftInShiftsThenTakesTheLevel
  refine ⟨fun s => ⟨fun he => ?_, fun he => ?_⟩, fun acc levels h k hk => shiftAll_getLsbD_pulse acc levels h k hk,
    fun levels _ => shiftAll_zero_lt levels⟩
  · rw [microStep_shiftIn s he, shiftInto_eq_append]
    rfl
  · rw [microStep_of_failed_access _ s (.dout, .smp) rfl he]
    rfl

/-- Settles O19: the three outcomes of a poll. -/
theorem waitLowCompletesOnALowLevelOnly : Obligations.WaitLowCompletesOnALowLevelOnly := by
  unfold Obligations.WaitLowCompletesOnALowLevelOnly
  refine fun s => ⟨microStep_waitLow_low s, microStep_waitLow_high s, fun he => ?_⟩
  rw [microStep_of_failed_access _ s (.dout, .smp) rfl he]
  rfl

/-- Settles O20: the two outcomes of the comparison. -/
theorem compareSetsChangeFlagsAndPath : Obligations.CompareSetsChangeFlagsAndPath := by
  unfold Obligations.CompareSetsChangeFlagsAndPath
  intro ch s
  rcases compareChannel_cases ch s with ⟨heq, h⟩ | ⟨hne, h⟩
  · exact ⟨fun _ => h, fun hne => absurd heq hne⟩
  · exact ⟨fun heq => absurd heq hne, fun _ => h⟩

/-- Settles O21: a running engine plays the micro-operation at its position, which takes the exception. -/
theorem everyFailedLineAccessFaults : Obligations.EveryFailedLineAccessFaults := by
  unfold Obligations.EveryFailedLineAccessFaults
  intro i s op l k hs hop ha he
  rw [exec_of_run i s op hs hop, microStep_of_failed_access op s (l, k) ha he]
  rfl

/-- Settles O22: without a line access a micro-operation looks at no input, so it has one outcome for both. -/
theorem stepsWithoutLineAccessCannotFail : Obligations.StepsWithoutLineAccessCannotFail := by
  unfold Obligations.StepsWithoutLineAccessCannotFail
  intro i s op hs hop ha
  obtain ⟨hf, hc⟩ := (microStep_frame op s).fault (.inl ha)
  refine ⟨microStep op s, exec_of_run i s op hs hop, hf, hc, fun x rest e _ => ?_⟩
  rw [← microStep_with_env op s _ (.inl ha)]
  exact exec_of_run i _ op hs hop

end Sys2Proof.Machine
end

section
/-!
The causes each command can raise (60_exceptions.md R214), and what READ plays from its last acquisition on
(42_channel_select.md R156).
-/

namespace Sys2Proof.Machine

theorem acquireOp_cause (n : Nat) (a : Line × AccessKind) (h : (acquireOp n).access = some a) :
    causeOf a.1 a.2 = 0x01#5 ∨ causeOf a.1 a.2 = 0x08#5 := by
  rcases acquireOp_cases n with ho | ho | ho | ⟨v, ho⟩ | ho | ho <;> rw [ho] at h <;> cases h <;> decide

/-- Settles O23: the accesses of each micro-program are read off its table, and each cause listed stands at an index. -/
theorem faultCausesOfEachCommand : Obligations.FaultCausesOfEachCommand := by
  unfold Obligations.FaultCausesOfEachCommand
  intro i c
  cases i with
  | reset ch =>
    constructor
    · rintro ⟨n, op, a, hop, ha, rfl⟩
      rcases resetProgram_cases n op hop with ⟨-, rfl⟩ | ⟨-, rfl⟩ | ⟨-, rfl⟩ | ⟨-, rfl⟩ | ⟨-, rfl⟩ <;> cases ha <;> rfl
    · rintro rfl
      exact ⟨0, _, _, rfl, rfl, rfl⟩
  | calofs ch =>
    constructor
    · rintro ⟨n, op, a, hop, ha, rfl⟩
      rcases calofsProgram_cases n op hop with ⟨-, rfl⟩ | ⟨-, rfl⟩ | ⟨-, rfl⟩ | ⟨-, rfl⟩ | ⟨-, rfl⟩ | ⟨-, rfl⟩
      · exact acquireOp_cause n a ha
      all_goals cases ha <;> dsimp only <;> decide
    · rintro (rfl | rfl)
      · exact ⟨150, _, _, rfl, rfl, rfl⟩
      · exact ⟨153, _, _, rfl, rfl, rfl⟩
  | standby ch =>
    constructor
    · rintro ⟨n, op, a, hop, ha, rfl⟩
      rcases standbyProgram_cases n op hop with ⟨-, rfl⟩ | ⟨-, rfl⟩ | ⟨-, rfl⟩ | ⟨-, rfl⟩ <;> cases ha <;>
        dsimp only <;> decide
    · rintro (rfl | rfl)
      · exact ⟨0, _, _, rfl, rfl, rfl⟩
      · exact ⟨1, _, _, rfl, rfl, rfl⟩
  | read ch =>
    constructor
    · rintro ⟨n, op, a, hop, ha, rfl⟩
      rcases readProgram_cases ch n op hop with
        ⟨-, rfl⟩ | ⟨-, rfl⟩ | ⟨-, rfl⟩ | ⟨-, rfl⟩ | ⟨-, rfl⟩ | ⟨-, rfl⟩ | ⟨-, -, rfl⟩ | ⟨-, rfl⟩
      case inr.inr.inr.inr.inr.inr.inl => simp [acquireOp_cause _ a ha]
      all_goals cases ha <;> dsimp only <;> decide
    · rintro (rfl | rfl | rfl | rfl | rfl | rfl)
      · exact ⟨0, _, _, rfl, rfl, rfl⟩
      · exact ⟨1, _, _, rfl, rfl, rfl⟩
      · exact ⟨3, _, _, rfl, rfl, rfl⟩
      · exact ⟨4, _, _, rfl, rfl, rfl⟩
      · exact ⟨6, _, _, rfl, rfl, rfl⟩
      · exact ⟨7, _, _, rfl, rfl, rfl⟩

/-- Settles O29: CMP finds the requested channel selected and skips to 606, past which stand only the plain
micro-operations of ACQUIRE and the completion. -/
theorem readOfTheSelectedChannelSkipsTheChange : Obligations.ReadOfTheSelectedChannelSkipsTheChange := by
  unfold Obligations.ReadOfTheSelectedChannelSkipsTheChange
  refine ⟨fun s hs hp => ?_, fun ch n op hn hop => ?_⟩
  · rw [exec_of_run _ s (.cmp s.selectedChannel) hs (by rw [hp]; rfl)]
    exact congrArg _ ((compareSetsChangeFlagsAndPath s.selectedChannel s).1 rfl)
  · have h : op.isPlain = true ∨ op = .finishRead := by
      rcases readProgram_cases ch n op hop with
        ⟨h, -⟩ | ⟨h, -⟩ | ⟨h, -⟩ | ⟨h, -⟩ | ⟨h, -⟩ | ⟨h, -⟩ | ⟨-, -, rfl⟩ | ⟨-, rfl⟩
      case inr.inr.inr.inr.inr.inr.inl => exact .inl (isPlain_acquireOp _)
      case inr.inr.inr.inr.inr.inr.inr => exact .inr rfl
      all_goals omega
    refine ⟨?_, fun v => ⟨?_, ?_⟩⟩ <;> rintro rfl <;> simp [MicroOp.isPlain] at h

end Sys2Proof.Machine
end

section
/-!
The micro-operation a command plays at an index, and the commands index by index (41_acquisition.md R131,
43_read_settling.md R171, 44_lifecycle.md R191, R194, R197).
-/

namespace Sys2Proof.Machine

/-! ## `exec` by the micro-operation at the index -/

section
variable {i : Instr} {s : State} {n : Nat}

theorem exec_drv (l : OutLine) (v : Level) (hs : s.seq = .run) (he : s.now.lineErr = false) (hp : s.upc = n)
    (hop : microProgram i n = some (.drv l v)) :
    exec i s = .next { s.setLineReg l v with upc := n + 1, trace := s.trace ++ [.drv l v] } := by
  rw [exec_of_run i s _ hs (hp ▸ hop), microStep_drv l v s he, ← hp]
  cases l <;> rfl

theorem exec_startAcquire (hs : s.seq = .run) (he : s.now.lineErr = false) (hp : s.upc = n)
    (hop : microProgram i n = some .startAcquire) :
    exec i s = .next { s with sclkQ := false, acc := 0#32, upc := n + 1, trace := s.trace ++ [.drv .sclk false] } := by
  rw [exec_of_run i s _ hs (hp ▸ hop), microStep_startAcquire s he, ← hp]
  rfl

theorem exec_waitLow_low (hs : s.seq = .run) (he : s.now.lineErr = false) (hp : s.upc = n)
    (hop : microProgram i n = some .waitLow) (hd : s.now.dout = false) :
    exec i s = .next { s with upc := n + 1, trace := s.trace ++ [.waited] } := by
  rw [exec_of_run i s _ hs (hp ▸ hop), microStep_waitLow_low s he hd, ← hp]
  rfl

theorem exec_waitLow_high (hs : s.seq = .run) (he : s.now.lineErr = false) (hp : s.upc = n)
    (hop : microProgram i n = some .waitLow) (hd : s.now.dout = true) : exec i s = .next s := by
  rw [exec_of_run i s _ hs (hp ▸ hop), microStep_waitLow_high s he hd]

theorem exec_shiftIn (hs : s.seq = .run) (he : s.now.lineErr = false) (hp : s.upc = n)
    (hop : microProgram i n = some .shiftIn) :
    exec i s = .next
      { s with acc := shiftInto s.acc s.now.dout, upc := n + 1, trace := s.trace ++ [.smp s.now.dout] } := by
  rw [exec_of_run i s _ hs (hp ▸ hop), microStep_shiftIn s he, ← hp]
  rfl

theorem exec_qry {l : SelLine} (hs : s.seq = .run) (he : s.now.lineErr = false) (hp : s.upc = n)
    (hop : microProgram i n = some (.qry l)) :
    exec i s = .next { s with upc := n + 1, trace := s.trace ++ [.qry l (s.lastDriven l)] } := by
  rw [exec_of_run i s _ hs (hp ▸ hop), microStep_qry l s he, ← hp]
  rfl

theorem exec_dly {d : Nat} (hs : s.seq = .run) (hp : s.upc = n) (hop : microProgram i n = some (.dly d)) :
    exec i s = .next { s with upc := n + 1, trace := s.trace ++ [.dly d] } := by
  rw [exec_of_run i s _ hs (hp ▸ hop), ← hp]
  rfl

theorem exec_cmp_same {ch : ChCode} (hs : s.seq = .run) (hp : s.upc = n) (hop : microProgram i n = some (.cmp ch))
    (hsel : s.selectedChannel = ch) :
    exec i s = .next { s with prevCh := ch, chg := false, disc := false, upc := 606 } := by
  rw [exec_of_run i s _ hs (hp ▸ hop), (compareSetsChangeFlagsAndPath ch s).1 hsel]

theorem exec_cmp_change {ch : ChCode} (hs : s.seq = .run) (hp : s.upc = n)
    (hop : microProgram i n = some (.cmp ch)) (hsel : s.selectedChannel ≠ ch) :
    exec i s = .next { s with
      prevCh := s.selectedChannel, chg := true, disc := crossing s.variant s.selectedChannel ch, upc := 3 } := by
  rw [exec_of_run i s _ hs (hp ▸ hop), (compareSetsChangeFlagsAndPath ch s).2 hsel]

theorem exec_settle (hs : s.seq = .run) (hp : s.upc = n) (hop : microProgram i n = some .settle) :
    exec i s = .next { s with upc := if s.disc then 6 else lastAcquire, trace := s.trace ++ [.dly tSettle] } :=
  exec_of_run i s .settle hs (hp ▸ hop)

theorem exec_finish (hs : s.seq = .run) (hp : s.upc = n) (hop : microProgram i n = some .finish) :
    exec i s = .next { s with done := true, busy := false, seq := .idle } :=
  exec_of_run i s .finish hs (hp ▸ hop)

theorem exec_finishRead (hs : s.seq = .run) (hp : s.upc = n) (hop : microProgram i n = some .finishRead) :
    exec i s = .next
      { s with result := sext24to32 s.acc, rvalid := true, done := true, busy := false, seq := .idle } :=
  exec_of_run i s .finishRead hs (hp ▸ hop)

end

/-! ## The commands -/

/-- Settles O24: the eight indices of RESET. -/
theorem resetPlaysThePowerDownPulseTrain : Obligations.ResetPlaysThePowerDownPulseTrain := by
  unfold Obligations.ResetPlaysThePowerDownPulseTrain
  intro ch s hs he
  exact ⟨fun hp => exec_drv .pdwn false hs he hp rfl, fun hp => exec_dly hs hp rfl,
    fun hp => exec_drv .pdwn true hs he hp rfl, fun hp => exec_dly hs hp rfl,
    fun hp => exec_drv .pdwn false hs he hp rfl, fun hp => exec_dly hs hp rfl,
    fun hp => exec_drv .pdwn true hs he hp rfl, fun hp => exec_finish hs hp rfl⟩

/-- Settles O25: the four indices of STANDBY, the wait with either poll. -/
theorem standbyPlaysClockLowWaitClockHigh : Obligations.StandbyPlaysClockLowWaitClockHigh := by
  unfold Obligations.StandbyPlaysClockLowWaitClockHigh
  intro ch s hs he
  exact ⟨fun hp => exec_drv .sclk false hs he hp rfl, fun hp => exec_waitLow_low hs he hp rfl,
    fun hp => exec_waitLow_high hs he hp rfl, fun hp => exec_drv .sclk true hs he hp rfl,
    fun hp => exec_finish hs hp rfl⟩

/-- Settles O27: the indices of CALOFS after its acquisition, the wait with either poll. -/
theorem calofsPlaysThe26thPulseAndWaits : Obligations.CalofsPlaysThe26thPulseAndWaits := by
  unfold Obligations.CalofsPlaysThe26thPulseAndWaits
  intro ch s hs he
  exact ⟨fun hp => exec_drv .sclk true hs he hp rfl, fun hp => exec_dly hs hp rfl,
    fun hp => exec_drv .sclk false hs he hp rfl, fun hp => exec_waitLow_low hs he hp rfl,
    fun hp => exec_waitLow_high hs he hp rfl, fun hp => exec_finish hs hp rfl⟩

/-- Settles O28: the indices of READ outside its acquisitions; CMP and the completion are rewritten to the statement's
forms of the path and of SEXT24. -/
theorem readQueriesComparesDrivesSettlesCompletes : Obligations.ReadQueriesComparesDrivesSettlesCompletes := by
  unfold Obligations.ReadQueriesComparesDrivesSettlesCompletes
  intro ch s hs he
  refine ⟨fun hp => exec_qry hs he hp rfl, fun hp => exec_qry hs he hp rfl, fun hp => ?_,
    fun hp => exec_drv .sel0 (ch.getLsbD 0) hs he hp rfl, fun hp => exec_drv .sel1 (ch.getLsbD 1) hs he hp rfl,
    fun hp => exec_settle hs hp rfl, fun hp => ?_⟩
  · by_cases hsel : s.selectedChannel = ch
    · simp [exec_cmp_same (i := .read ch) hs hp rfl hsel, hsel]
    · simp [exec_cmp_change (i := .read ch) hs hp rfl hsel, hsel]
  · rw [exec_finishRead hs hp rfl, sext24to32_eq_signExtend]

theorem mem_acquireStarts (i : Instr) (a : Nat)
    (h : (∃ ch, i = .calofs ch) ∧ a = 0 ∨
      (∃ ch, i = .read ch) ∧ (a = 6 ∨ a = 156 ∨ a = 306 ∨ a = 456 ∨ a = 606)) : a ∈ acquireStarts i := by
  rcases h with ⟨⟨ch, rfl⟩, rfl⟩ | ⟨⟨ch, rfl⟩, h⟩ <;> simp_all [acquireStarts]

/-- The place of an offset of ACQUIRE in its pulse. -/
theorem microProgram_acquire_pulse (i : Instr) (a k p : Nat) (ha : a ∈ acquireStarts i) (hk : k < 24) (hp : p < 6) :
    microProgram i (a + 2 + 6 * k + p) = some (pulseOp p) := by
  rw [show a + 2 + 6 * k + p = a + (2 + 6 * k + p) by omega, microProgram_acquire i a _ ha (by omega),
    acquireOp_pulse k p hk hp]

/-- Settles O26: the offsets of ACQUIRE, those of the 24 pulses by their place in the pulse. -/
theorem acquireStepsInReadAndCalofs : Obligations.AcquireStepsInReadAndCalofs := by
  unfold Obligations.AcquireStepsInReadAndCalofs
  intro i s a h hs he
  have ha := mem_acquireStarts i a h
  have hacq (n : Nat) (hn : n < 150) := microProgram_acquire i a n ha hn
  refine ⟨fun hp => exec_startAcquire hs he hp (hacq 0 (by omega)),
    fun hp => exec_waitLow_low hs he hp (hacq 1 (by omega)), fun hp => exec_waitLow_high hs he hp (hacq 1 (by omega)),
    fun k hk => ?_, fun hp => exec_drv .sclk true hs he hp (hacq 146 (by omega)),
    fun hp => exec_dly hs hp (hacq 147 (by omega)), fun hp => exec_drv .sclk false hs he hp (hacq 148 (by omega)),
    fun hp => exec_dly hs hp (hacq 149 (by omega))⟩
  have hpulse (p : Nat) (hp : p < 6) : microProgram i (a + (2 + p) + 6 * k) = some (pulseOp p) := by
    rw [← microProgram_acquire_pulse i a k p ha hk hp]
    congr 1
    omega
  have hnext (n : Nat) : a + n + 6 * k + 1 = a + (n + 1) + 6 * k := by omega
  refine ⟨fun hp => ?_, fun hp => ?_, fun hp => ?_, fun hp => ?_, fun hp => ?_, fun hp => ?_⟩
  · rw [exec_drv .sclk true hs he hp (hpulse 0 (by omega)), hnext]
    rfl
  · rw [exec_dly hs hp (hpulse 1 (by omega)), hnext]
    rfl
  · rw [exec_shiftIn hs he hp (hpulse 2 (by omega)), hnext]
    rfl
  · rw [exec_dly hs hp (hpulse 3 (by omega)), hnext]
    rfl
  · rw [exec_drv .sclk false hs he hp (hpulse 4 (by omega)), hnext]
    rfl
  · rw [exec_dly hs hp (hpulse 5 (by omega)), hnext]
    rfl

end Sys2Proof.Machine
end

section
/-!
Runs over instants at which engine reset is released and no access fails: a command word, a wait, a pulse, an
acquisition, and the commands put together from them (41_acquisition.md R136, 43_read_settling.md R178,
44_lifecycle.md R192, R194, R198, 70_reset_and_hazards.md R252).
-/

namespace Sys2Proof.Machine

open Host.Core (run)

/-! ## One step of a run -/

theorem run_of_exec {k : Nat} {s t : State} {x : Inputs} {rest : List Inputs} (hs : s.seq = .run)
    (henv : s.env = x :: rest) (hx : x.rstN = true) (h : exec (commandOf s.cmdQ) s = .next t) (ht : t.env = s.env) :
    run Sys2Proof.core (k + 1) s = run Sys2Proof.core k { t with env := rest } := by
  have hstep : step s = .next t.advance := by
    rw [step_of_run s (by rw [s.now_of_cons x rest henv, hx]) hs, h]
    rfl
  rw [run_succ k s _ hstep, t.advance_of_cons x rest (ht.trans henv)]

theorem run_of_legal_word {k : Nat} {s : State} {x : Inputs} {rest : List Inputs} (hs : s.seq = .idle)
    (henv : s.env = x :: rest) (hr : x.rstN = true) (hv : x.cmdValid = true)
    (hw : (commandOf x.cmd).wellFormed s.variant = true) :
    run Sys2Proof.core (k + 1) s = run Sys2Proof.core k { s.accept x.cmd with env := rest } := by
  have hx := s.now_of_cons x rest henv
  have hstep := step_of_legal_word s (hx ▸ hr) hs (hx ▸ hv) (hx ▸ hw)
  rw [hx] at hstep
  rw [run_succ k s _ hstep, State.advance_of_cons (s.accept x.cmd) x rest henv]

/-- A wait holds while DOUT is high. -/
theorem run_waitLow_high (highs rest : List Inputs) (k : Nat) (s : State) (hs : s.seq = .run)
    (hop : s.currentOp = some .waitLow) (henv : s.env = highs ++ rest) (hq : ∀ y ∈ highs, y.quiet ∧ y.dout = true) :
    run Sys2Proof.core (k + highs.length) s = run Sys2Proof.core k { s with env := rest } := by
  induction highs generalizing s with
  | nil => simp [← show s.env = rest from henv]
  | cons y ys ih =>
    obtain ⟨⟨hr, he⟩, hd⟩ := hq y List.mem_cons_self
    have hy := s.now_of_cons y _ henv
    refine (run_of_exec hs henv hr (exec_waitLow_high hs (hy ▸ he) rfl hop (hy ▸ hd)) rfl).trans ?_
    exact ih _ hs hop rfl fun z hz => hq z (List.mem_cons_of_mem y hz)

theorem acquireOp_eq_waitLow_iff (n : Nat) : acquireOp n = .waitLow ↔ n = 1 := by
  unfold acquireOp pulseOp
  repeat' split
  all_goals simp
  all_goals omega

theorem microProgram_waitLow_iff (i : Instr) (n : Nat) :
    microProgram i n = some .waitLow ↔
      (∃ a ∈ acquireStarts i, n = a + 1) ∨ (∃ ch, i = .calofs ch ∧ n = 153) ∨ (∃ ch, i = .standby ch ∧ n = 1) := by
  constructor
  · intro h
    cases i with
    | reset ch => rcases resetProgram_cases n _ h with ⟨-, h⟩ | ⟨-, h⟩ | ⟨-, h⟩ | ⟨-, h⟩ | ⟨-, h⟩ <;> cases h
    | calofs ch =>
      rcases calofsProgram_cases n _ h with ⟨-, h⟩ | ⟨-, h⟩ | ⟨-, h⟩ | ⟨-, h⟩ | ⟨hn, -⟩ | ⟨-, h⟩
      · exact .inl ⟨0, List.mem_singleton_self 0, (acquireOp_eq_waitLow_iff n).mp h.symm⟩
      case inr.inr.inr.inr.inl => exact .inr (.inl ⟨ch, rfl, hn⟩)
      all_goals cases h
    | standby ch =>
      rcases standbyProgram_cases n _ h with ⟨-, h⟩ | ⟨hn, -⟩ | ⟨-, h⟩ | ⟨-, h⟩
      case inr.inl => exact .inr (.inr ⟨ch, rfl, hn⟩)
      all_goals cases h
    | read ch =>
      obtain ⟨h6, h756, hacq⟩ := acquire_of_isPlain_read ch n _ h rfl
      have h1 := (acquireOp_eq_waitLow_iff _).mp hacq.symm
      left
      simp only [acquireStarts, List.mem_cons, List.not_mem_nil, or_false, exists_eq_or_imp, exists_eq_left]
      omega
  · rintro (⟨a, ha, rfl⟩ | ⟨ch, rfl, rfl⟩ | ⟨ch, rfl, rfl⟩)
    · exact microProgram_acquire i a 1 ha (by omega)
    · rfl
    · rfl

/-- Settles O35: the positions are those of the tables, and at each a high poll holds. -/
theorem waitLowHoldsWhileDoutIsHigh : Obligations.WaitLowHoldsWhileDoutIsHigh := by
  unfold Obligations.WaitLowHoldsWhileDoutIsHigh
  refine ⟨microProgram_waitLow_iff, fun s highs rest hs hop henv hq => ?_⟩
  have h := run_waitLow_high highs rest 0 s hs hop henv hq
  rwa [Nat.zero_add] at h

theorem commandOf_of_opField (w : Cmd) :
    (opField w = 0#2 → commandOf w = .reset (chField w)) ∧ (opField w = 1#2 → commandOf w = .calofs (chField w)) ∧
    (opField w = 2#2 → commandOf w = .standby (chField w)) := by
  revert w; decide

/-- Settles O30: acceptance and the eight indices. -/
theorem resetCommandRun : Obligations.ResetCommandRun := by
  unfold Obligations.ResetCommandRun
  intro s x ins rest hs henv hr hv hcmd hlen hq
  have hc := (commandOf_of_opField x.cmd).1 hcmd
  have hop (n : Nat) : microProgram (commandOf x.cmd) n = resetProgram n := by rw [hc]; rfl
  match ins, hlen with
  | [y0, y1, y2, y3, y4, y5, y6, y7], _ =>
    simp only [List.forall_mem_cons] at hq
    obtain ⟨⟨r0, e0⟩, ⟨r1, -⟩, ⟨r2, e2⟩, ⟨r3, -⟩, ⟨r4, e4⟩, ⟨r5, -⟩, ⟨r6, e6⟩, ⟨r7, -⟩, -⟩ := hq
    refine Eq.trans (run_of_legal_word hs henv hr hv (by rw [hc]; rfl)) ?_
    refine Eq.trans (run_of_exec rfl rfl r0 (exec_drv .pdwn false rfl e0 rfl (hop 0)) rfl) ?_
    refine Eq.trans (run_of_exec rfl rfl r1 (exec_dly rfl rfl (hop 1)) rfl) ?_
    refine Eq.trans (run_of_exec rfl rfl r2 (exec_drv .pdwn true rfl e2 rfl (hop 2)) rfl) ?_
    refine Eq.trans (run_of_exec rfl rfl r3 (exec_dly rfl rfl (hop 3)) rfl) ?_
    refine Eq.trans (run_of_exec rfl rfl r4 (exec_drv .pdwn false rfl e4 rfl (hop 4)) rfl) ?_
    refine Eq.trans (run_of_exec rfl rfl r5 (exec_dly rfl rfl (hop 5)) rfl) ?_
    refine Eq.trans (run_of_exec rfl rfl r6 (exec_drv .pdwn true rfl e6 rfl (hop 6)) rfl) ?_
    refine Eq.trans (run_of_exec rfl rfl r7 (exec_finish rfl rfl (hop 7)) rfl) ?_
    simp [run, State.setLineReg, State.accept, State.flagsOnAccept, tPwrStable, tPdwnHigh, tPdwnLow]

/-- Settles O31: acceptance, clock low, the high polls, the low one, clock high, completion. -/
theorem standbyCommandRun : Obligations.StandbyCommandRun := by
  unfold Obligations.StandbyCommandRun
  intro s x y0 low y2 y3 highs rest hs henv hr hv hcmd hy0 hy2 hy3 hhighs hlow hdout
  have hc := (commandOf_of_opField x.cmd).2.2 hcmd
  have hop (n : Nat) : microProgram (commandOf x.cmd) n = standbyProgram n := by rw [hc]; rfl
  rw [show highs.length + 5 = 3 + highs.length + 1 + 1 by omega]
  refine Eq.trans (run_of_legal_word hs henv hr hv (by rw [hc]; rfl)) ?_
  refine Eq.trans (run_of_exec rfl rfl hy0.1 (exec_drv .sclk false rfl hy0.2 rfl (hop 0)) rfl) ?_
  refine Eq.trans (run_waitLow_high highs (low :: y2 :: y3 :: rest) _ _ rfl (hop 1) rfl hhighs) ?_
  refine Eq.trans (run_of_exec rfl rfl hlow.1 (exec_waitLow_low rfl hlow.2 rfl (hop 1) hdout) rfl) ?_
  refine Eq.trans (run_of_exec rfl rfl hy2.1 (exec_drv .sclk true rfl hy2.2 rfl (hop 2)) rfl) ?_
  refine Eq.trans (run_of_exec rfl rfl hy3.1 (exec_finish rfl rfl (hop 3)) rfl) ?_
  simp [run, State.setLineReg, State.accept, State.flagsOnAccept]

/-! ## ACQUIRE -/

theorem exists_six_cons {α : Type} (l : List α) (h : 6 ≤ l.length) :
    ∃ x0 x1 x2 x3 x4 x5 l', l = x0 :: x1 :: x2 :: x3 :: x4 :: x5 :: l' := by
  match l, h with
  | x0 :: x1 :: x2 :: x3 :: x4 :: x5 :: l', _ => exact ⟨x0, x1, x2, x3, x4, x5, l', rfl⟩

/-- One data pulse: clock high, set-up, sample, hold, clock low, bit-low time. -/
theorem run_pulse (k : Nat) (s : State) (x0 x1 x2 x3 x4 x5 : Inputs) (rest : List Inputs) (hs : s.seq = .run)
    (henv : s.env = x0 :: x1 :: x2 :: x3 :: x4 :: x5 :: rest) (hq : ∀ y ∈ [x0, x1, x2, x3, x4, x5], y.quiet)
    (hop : ∀ p < 6, microProgram (commandOf s.cmdQ) (s.upc + p) = some (pulseOp p)) :
    run Sys2Proof.core (k + 6) s = run Sys2Proof.core k
      { s with
        sclkQ := false, acc := shiftInto s.acc x2.dout, upc := s.upc + 6, env := rest
        trace := s.trace ++ pulseTrace x2.dout } := by
  simp only [List.forall_mem_cons] at hq
  obtain ⟨⟨r0, e0⟩, ⟨r1, -⟩, ⟨r2, e2⟩, ⟨r3, -⟩, ⟨r4, e4⟩, ⟨r5, -⟩, -⟩ := hq
  have he0 : s.now.lineErr = false := by rw [s.now_of_cons x0 _ henv, e0]
  refine Eq.trans (run_of_exec hs henv r0 (exec_drv .sclk true hs he0 rfl (hop 0 (by omega))) rfl) ?_
  refine Eq.trans (run_of_exec hs rfl r1 (exec_dly hs rfl (hop 1 (by omega))) rfl) ?_
  refine Eq.trans (run_of_exec hs rfl r2 (exec_shiftIn hs e2 rfl (hop 2 (by omega))) rfl) ?_
  refine Eq.trans (run_of_exec hs rfl r3 (exec_dly hs rfl (hop 3 (by omega))) rfl) ?_
  refine Eq.trans (run_of_exec hs rfl r4 (exec_drv .sclk false hs e4 rfl (hop 4 (by omega))) rfl) ?_
  refine Eq.trans (run_of_exec hs rfl r5 (exec_dly hs rfl (hop 5 (by omega))) rfl) ?_
  simp [State.setLineReg, State.now, pulseTrace, tSmpSetup, tSmpHold, tBitLow]

/-- The levels of DOUT at the sample instants of `m` pulses. -/
def pulseLevels (ins : List Inputs) (m : Nat) : List Level := (List.range m).map fun j => doutAt ins (2 + 6 * j)

theorem pulseLevels_succ (x0 x1 x2 x3 x4 x5 : Inputs) (ins : List Inputs) (m : Nat) :
    pulseLevels (x0 :: x1 :: x2 :: x3 :: x4 :: x5 :: ins) (m + 1) = x2.dout :: pulseLevels ins m := by
  simp only [pulseLevels, List.range_succ_eq_map, List.map_cons, List.map_map]
  rfl

/-- Any number of data pulses. -/
theorem run_pulses (m k : Nat) (s : State) (ins rest : List Inputs) (hs : s.seq = .run) (henv : s.env = ins ++ rest)
    (hlen : 6 * m ≤ ins.length) (hq : ∀ y ∈ ins, y.quiet) (hclk : s.sclkQ = false)
    (hop : ∀ j < m, ∀ p < 6, microProgram (commandOf s.cmdQ) (s.upc + 6 * j + p) = some (pulseOp p)) :
    run Sys2Proof.core (k + 6 * m) s = run Sys2Proof.core k
      { s with
        acc := shiftAll s.acc (pulseLevels ins m), upc := s.upc + 6 * m, env := ins.drop (6 * m) ++ rest
        trace := s.trace ++ (pulseLevels ins m).flatMap pulseTrace } := by
  induction m generalizing s ins with
  | zero => simp [pulseLevels, shiftAll, ← henv]
  | succ m ih =>
    obtain ⟨x0, x1, x2, x3, x4, x5, ins, rfl⟩ := exists_six_cons ins (by omega)
    have hpulse := run_pulse (k + 6 * m) s x0 x1 x2 x3 x4 x5 (ins ++ rest) hs henv
      (fun y hy => hq y (List.mem_append_left ins hy)) (hop 0 (by omega))
    refine hpulse.trans (Eq.trans
      (ih _ ins hs rfl (by simp at hlen; omega) (fun y hy => hq y (List.mem_append_right [x0, x1, x2, x3, x4, x5] hy))
        rfl ?_) ?_)
    · intro j hj p hp
      rw [← hop (j + 1) (by omega) p hp]
      congr 1
      simp only
      omega
    · rw [pulseLevels_succ]
      simp [hclk, shiftAll, Nat.mul_succ, Nat.add_assoc, Nat.add_comm 6]

theorem sampleLevels_cons_cons (x0 x1 : Inputs) (ins : List Inputs) :
    sampleLevels (x0 :: x1 :: ins) 0 = pulseLevels ins 24 := by
  refine List.map_congr_left fun k _ => ?_
  simp [doutAt, show 0 + 4 + 6 * k = 2 + 6 * k + 2 by omega]

/-- The 25th pulse, which takes no sample. -/
theorem run_pulse25 (k : Nat) (s : State) (a : Nat) (ins rest : List Inputs) (hs : s.seq = .run)
    (hop : ∀ n < 150, microProgram (commandOf s.cmdQ) (a + n) = some (acquireOp n)) (hp : s.upc = a + 146)
    (henv : s.env = ins ++ rest) (hlen : 4 ≤ ins.length) (hq : ∀ y ∈ ins, y.quiet) :
    run Sys2Proof.core (k + 4) s = run Sys2Proof.core k
      { s with
        sclkQ := false, upc := a + 150, env := ins.drop 4 ++ rest
        trace := s.trace ++ [.drv .sclk true, .dly 100, .drv .sclk false, .dly 100] } := by
  match ins, hlen with
  | x0 :: x1 :: x2 :: x3 :: tail, _ =>
    simp only [List.forall_mem_cons] at hq
    obtain ⟨⟨r0, e0⟩, ⟨r1, -⟩, ⟨r2, e2⟩, ⟨r3, -⟩, -⟩ := hq
    have he0 : s.now.lineErr = false := by rw [s.now_of_cons x0 _ henv, e0]
    refine Eq.trans (run_of_exec hs henv r0 (exec_drv .sclk true hs he0 hp (hop 146 (by omega))) rfl) ?_
    refine Eq.trans (run_of_exec hs rfl r1 (exec_dly hs rfl (hop 147 (by omega))) rfl) ?_
    refine Eq.trans (run_of_exec hs rfl r2 (exec_drv .sclk false hs e2 rfl (hop 148 (by omega))) rfl) ?_
    refine Eq.trans (run_of_exec hs rfl r3 (exec_dly hs rfl (hop 149 (by omega))) rfl) ?_
    simp [State.setLineReg, tP25High, tP25Low]

/-- One whole ACQUIRE at any of its starts, at the head of the inputs. -/
theorem run_acquire (k : Nat) (s : State) (a : Nat) (ins rest : List Inputs) (hs : s.seq = .run)
    (ha : a ∈ acquireStarts (commandOf s.cmdQ)) (hp : s.upc = a) (henv : s.env = ins ++ rest)
    (hlen : 150 ≤ ins.length) (hq : ∀ y ∈ ins, y.quiet) (hd : doutAt ins 1 = false) :
    run Sys2Proof.core (k + 150) s = run Sys2Proof.core k
      { s with
        sclkQ := false, acc := shiftAll 0#32 (sampleLevels ins 0), upc := a + 150, env := ins.drop 150 ++ rest
        trace := s.trace ++ acquireTrace (sampleLevels ins 0) } := by
  have hop (n : Nat) (hn : n < 150) := microProgram_acquire (commandOf s.cmdQ) a n ha hn
  match ins, hlen with
  | x0 :: x1 :: ins, hlen =>
    have hlen' : 148 ≤ ins.length := by simpa using hlen
    simp only [List.forall_mem_cons] at hq
    obtain ⟨⟨r0, e0⟩, ⟨r1, e1⟩, hins⟩ := hq
    have he0 : s.now.lineErr = false := by rw [s.now_of_cons x0 _ henv, e0]
    refine Eq.trans (run_of_exec hs henv r0 (exec_startAcquire hs he0 hp (hop 0 (by omega))) rfl) ?_
    refine Eq.trans (run_of_exec hs rfl r1 (exec_waitLow_low hs e1 rfl (hop 1 (by omega)) hd) rfl) ?_
    refine Eq.trans (run_pulses 24 (k + 4) _ ins rest hs rfl (by omega) hins rfl fun j hj p hp =>
      microProgram_acquire_pulse _ a j p ha hj hp) ?_
    refine Eq.trans (run_pulse25 k _ a (ins.drop 144) rest hs hop rfl rfl (by rw [List.length_drop]; omega)
      fun y hy => hins y (List.mem_of_mem_drop hy)) ?_
    simp [sampleLevels_cons_cons, acquireTrace]

theorem sampleLevels_length (ins : List Inputs) (n : Nat) : (sampleLevels ins n).length = 24 := by
  simp [sampleLevels]

theorem sampleLevels_getD (ins : List Inputs) (n k : Nat) (hk : k < 24) :
    (sampleLevels ins n).getD k false = doutAt ins (n + 4 + 6 * k) := by
  simp [sampleLevels, List.getD, hk]

/-- Settles O32: the accumulator is that of the 24 levels sampled, from a cleared one. -/
theorem acquireRun : Obligations.AcquireRun := by
  unfold Obligations.AcquireRun
  intro s a ins rest hs ha hp henv hlen hq hd
  refine ⟨shiftAll 0#32 (sampleLevels ins 0), ?_, fun k hk => ?_, ?_⟩
  · rw [shiftAll_extractLsb'_high _ _ (sampleLevels_length ins 0)]
    rfl
  · rw [shiftAll_getLsbD_pulse _ _ (sampleLevels_length ins 0) k hk, sampleLevels_getD ins 0 k hk, Nat.zero_add]
  · refine (run_acquire 0 s a ins rest hs ha hp henv hlen.ge hq hd).trans ?_
    rw [List.drop_eq_nil_of_le hlen.le]
    rfl

/-! ## The totals of one ACQUIRE -/

theorem sampledLevels_append (t u : List Event) : sampledLevels (t ++ u) = sampledLevels t ++ sampledLevels u :=
  List.filterMap_append

theorem delaySum_append (t u : List Event) : delaySum (t ++ u) = delaySum t + delaySum u := by
  simp [delaySum]

/-- What a trace adds to the totals of 41_acquisition.md R136: events, clock high, clock low, waits, delays and their
sum. -/
def totals (t : List Event) : List Nat :=
  [t.length, t.count (.drv .sclk true), t.count (.drv .sclk false), t.count .waited, t.countP Event.isDelay, delaySum t]

theorem totals_append (t u : List Event) : totals (t ++ u) = List.zipWith (· + ·) (totals t) (totals u) := by
  simp [totals, delaySum_append]

theorem totals_pulseTrace (b : Level) : totals (pulseTrace b) = [6, 1, 1, 0, 3, 200] := by
  cases b <;> decide

theorem totals_pulses (levels : List Level) :
    totals (levels.flatMap pulseTrace) = [6, 1, 1, 0, 3, 200].map (· * levels.length) := by
  induction levels with
  | nil => rfl
  | cons b bs ih =>
    rw [List.flatMap_cons, totals_append, totals_pulseTrace, ih]
    simp only [List.map_cons, List.map_nil, List.zipWith, List.length_cons, List.cons.injEq, and_true]
    omega

theorem sampledLevels_pulses (levels : List Level) : sampledLevels (levels.flatMap pulseTrace) = levels := by
  induction levels with
  | nil => rfl
  | cons b bs ih =>
    rw [List.flatMap_cons, sampledLevels_append, ih]
    rfl

theorem totals_acquireTrace (levels : List Level) (h : levels.length = 24) :
    totals (acquireTrace levels) = [150, 25, 26, 1, 74, 5000] := by
  rw [acquireTrace, totals_append, totals_append, totals_pulses, h]
  decide

theorem sampledLevels_acquireTrace (levels : List Level) : sampledLevels (acquireTrace levels) = levels := by
  rw [acquireTrace, sampledLevels_append, sampledLevels_append, sampledLevels_pulses]
  exact List.append_nil _

/-- Settles O55: the events are `acquireTrace`: the clock low and the wait, the pulses, the 25th pulse. -/
theorem totalsOfOneAcquire : Obligations.TotalsOfOneAcquire := by
  unfold Obligations.TotalsOfOneAcquire
  intro s a ins rest hs ha hp henv hlen hq hd
  have htotals := totals_acquireTrace (sampleLevels ins 0) (sampleLevels_length ins 0)
  simp only [totals, List.cons.injEq, and_true] at htotals
  obtain ⟨hall, hhigh, hlow, hwait, hdelays, hsum⟩ := htotals
  exact ⟨_, acquireTrace (sampleLevels ins 0), run_acquire 0 s a ins rest hs ha hp henv hlen.ge hq hd, rfl, hall, hhigh,
    hlow, sampledLevels_acquireTrace _, hwait, hdelays, hsum⟩

end Sys2Proof.Machine
end

section
/-!
The whole CALOFS and READ commands (43_read_settling.md R170, R178, 44_lifecycle.md R194): acquisitions one after the
other, the channel select of READ on its two ways to CMP's target, and the commands put together.
-/

namespace Sys2Proof.Machine

open Host.Core (run)

/-- Settles O33: acceptance, the acquisition, the 26th pulse, the high polls, the low one, completion. -/
theorem calofsCommandRun : Obligations.CalofsCommandRun := by
  unfold Obligations.CalofsCommandRun
  intro s x y0 y1 y2 low y4 ins highs rest hs henv hr hv hcmd hlen hq hd hy0 hy1 hy2 hy4 hhighs hlow hdout
  have hc := (commandOf_of_opField x.cmd).2.1 hcmd
  have hop (n : Nat) : microProgram (commandOf x.cmd) n = calofsProgram n := by rw [hc]; rfl
  have hstart : 0 ∈ acquireStarts (commandOf x.cmd) := by rw [hc]; exact List.mem_singleton_self 0
  rw [show highs.length + 156 = 2 + highs.length + 1 + 1 + 1 + 150 + 1 by omega]
  refine Eq.trans (run_of_legal_word hs henv hr hv (by rw [hc]; rfl)) ?_
  refine Eq.trans (run_acquire _ _ 0 ins _ rfl hstart rfl rfl hlen.ge hq hd) ?_
  rw [List.drop_eq_nil_of_le hlen.le]
  refine Eq.trans (run_of_exec rfl rfl hy0.1 (exec_drv .sclk true rfl hy0.2 rfl (hop 150)) rfl) ?_
  refine Eq.trans (run_of_exec rfl rfl hy1.1 (exec_dly rfl rfl (hop 151)) rfl) ?_
  refine Eq.trans (run_of_exec rfl rfl hy2.1 (exec_drv .sclk false rfl hy2.2 rfl (hop 152)) rfl) ?_
  refine Eq.trans (run_waitLow_high highs (low :: y4 :: rest) _ _ rfl (hop 153) rfl hhighs) ?_
  refine Eq.trans (run_of_exec rfl rfl hlow.1 (exec_waitLow_low rfl hlow.2 rfl (hop 153) hdout) rfl) ?_
  refine Eq.trans (run_of_exec rfl rfl hy4.1 (exec_finish rfl rfl (hop 154)) rfl) ?_
  simp [run, State.setLineReg, State.accept, State.flagsOnAccept, tCalHigh]

/-! ## Acquisitions one after the other -/

theorem doutAt_drop (ins : List Inputs) (m n : Nat) : doutAt (ins.drop m) n = doutAt ins (m + n) := by
  simp [doutAt]

theorem sampleLevels_drop (ins : List Inputs) (m n : Nat) :
    sampleLevels (ins.drop m) n = sampleLevels ins (m + n) := by
  refine List.map_congr_left fun k _ => ?_
  rw [doutAt_drop]
  congr 1
  omega

/-- `count + 1` acquisitions one after the other; ACC ends with the sample of the last. -/
theorem run_acquires (count k : Nat) (s : State) (a : Nat) (ins rest : List Inputs) (hs : s.seq = .run)
    (ha : ∀ j ≤ count, a + 150 * j ∈ acquireStarts (commandOf s.cmdQ)) (hp : s.upc = a) (henv : s.env = ins ++ rest)
    (hlen : 150 * (count + 1) ≤ ins.length) (hq : ∀ y ∈ ins, y.quiet)
    (hd : ∀ j ≤ count, doutAt ins (150 * j + 1) = false) :
    run Sys2Proof.core (k + 150 * (count + 1)) s = run Sys2Proof.core k
      { s with
        sclkQ := false, acc := shiftAll 0#32 (sampleLevels ins (150 * count)), upc := a + 150 * (count + 1)
        env := ins.drop (150 * (count + 1)) ++ rest
        trace := s.trace ++ (List.range (count + 1)).flatMap fun j => acquireTrace (sampleLevels ins (150 * j)) } := by
  induction count generalizing s a ins with
  | zero => simpa using run_acquire k s a ins rest hs (ha 0 le_rfl) hp henv (by omega) hq (hd 0 le_rfl)
  | succ count ih =>
    rw [Nat.mul_succ 150 (count + 1), ← Nat.add_assoc]
    refine Eq.trans (run_acquire _ s a ins rest hs (ha 0 (by omega)) hp henv (by omega) hq (hd 0 (by omega))) ?_
    refine Eq.trans (ih _ (a + 150) (ins.drop 150) hs (fun j hj => ?_) rfl rfl (by rw [List.length_drop]; omega)
      (fun y hy => hq y (List.mem_of_mem_drop hy)) (fun j hj => ?_)) ?_
    · have h := ha (j + 1) (by omega)
      rwa [show a + 150 * (j + 1) = a + 150 + 150 * j by omega] at h
    · rw [doutAt_drop, show 150 + (150 * j + 1) = 150 * (j + 1) + 1 by omega]
      exact hd (j + 1) (by omega)
    · rw [List.range_succ_eq_map (n := count + 1)]
      simp [sampleLevels_drop, Nat.mul_succ, Nat.add_comm 150, Nat.add_assoc, List.flatMap_map]

/-! ## The paths of READ (43_read_settling.md R178) -/

/-- Whether a READ finds another channel selected. -/
def State.changes (s : State) (ch : ChCode) : Bool := s.selectedChannel != ch

/-- Whether a READ changes into or out of the temperature channel. -/
def State.crosses (s : State) (ch : ChCode) : Bool := s.changes ch && crossing s.variant s.selectedChannel ch

/-- How many steps a READ takes to its first acquisition. -/
def selectSteps (changed : Bool) : Nat := if changed then 6 else 3

/-- How many samples a READ discards. -/
def discards (crosses : Bool) : Nat := if crosses then 4 else 0

/-- Where a READ plays its first acquisition. -/
def firstAcquire (crosses : Bool) : Nat := if crosses then 6 else lastAcquire

/-- The acquisitions of a path start where its channel select leads, and the last one ends at the end index. -/
theorem acquireStarts_of_path (crosses : Bool) (ch : ChCode) :
    (∀ j ≤ discards crosses, firstAcquire crosses + 150 * j ∈ acquireStarts (.read ch)) ∧
    firstAcquire crosses + 150 * (discards crosses + 1) = 756 := by
  cases crosses <;> simp only [acquireStarts] <;> decide

/-! ## The channel select of READ -/

/-- The two queries. -/
theorem run_queries (k : Nat) (s : State) (ch : ChCode) (y0 y1 : Inputs) (rest : List Inputs) (hs : s.seq = .run)
    (hc : commandOf s.cmdQ = .read ch) (hp : s.upc = 0) (henv : s.env = y0 :: y1 :: rest) (h0 : y0.quiet)
    (h1 : y1.quiet) :
    run Sys2Proof.core (k + 2) s = run Sys2Proof.core k
      { s with upc := 2, env := rest, trace := s.trace ++ [.qry .sel0 s.sel0Q, .qry .sel1 s.sel1Q] } := by
  have hop (n : Nat) : microProgram (commandOf s.cmdQ) n = readProgram ch n := by rw [hc]; rfl
  have he0 : s.now.lineErr = false := by rw [s.now_of_cons y0 _ henv, h0.2]
  refine Eq.trans (run_of_exec hs henv h0.1 (exec_qry hs he0 hp (hop 0)) rfl) ?_
  refine Eq.trans (run_of_exec hs rfl h1.1 (exec_qry hs h1.2 rfl (hop 1)) rfl) ?_
  simp [State.lastDriven]

/-- Queries and CMP where the requested channel is selected. -/
theorem run_select_same (k : Nat) (s : State) (ch : ChCode) (ins rest : List Inputs) (hs : s.seq = .run)
    (hc : commandOf s.cmdQ = .read ch) (hp : s.upc = 0) (henv : s.env = ins ++ rest) (hlen : 3 ≤ ins.length)
    (hq : ∀ y ∈ ins, y.quiet) (hsame : s.selectedChannel = ch) :
    run Sys2Proof.core (k + 3) s = run Sys2Proof.core k
      { s with
        prevCh := ch, chg := false, disc := false, upc := lastAcquire, env := ins.drop 3 ++ rest
        trace := s.trace ++ [.qry .sel0 s.sel0Q, .qry .sel1 s.sel1Q] } := by
  have hop (n : Nat) : microProgram (commandOf s.cmdQ) n = readProgram ch n := by rw [hc]; rfl
  match ins, hlen with
  | y0 :: y1 :: y2 :: tail, _ =>
    simp only [List.forall_mem_cons] at hq
    obtain ⟨h0, h1, h2, -⟩ := hq
    refine Eq.trans (run_queries (k + 1) s ch y0 y1 _ hs hc hp henv h0 h1) ?_
    exact Eq.trans (run_of_exec hs rfl h2.1 (exec_cmp_same hs rfl (hop 2) hsame) rfl) rfl

/-- Queries, CMP, drives and settling delay where another channel is selected. -/
theorem run_select_change (k : Nat) (s : State) (ch : ChCode) (ins rest : List Inputs) (hs : s.seq = .run)
    (hc : commandOf s.cmdQ = .read ch) (hp : s.upc = 0) (henv : s.env = ins ++ rest) (hlen : 6 ≤ ins.length)
    (hq : ∀ y ∈ ins, y.quiet) (hne : s.selectedChannel ≠ ch) :
    run Sys2Proof.core (k + 6) s = run Sys2Proof.core k
      { s with
        sel0Q := ch.getLsbD 0, sel1Q := ch.getLsbD 1, prevCh := s.selectedChannel, chg := true
        disc := crossing s.variant s.selectedChannel ch
        upc := if crossing s.variant s.selectedChannel ch then 6 else lastAcquire, env := ins.drop 6 ++ rest
        trace := s.trace ++ [.qry .sel0 s.sel0Q, .qry .sel1 s.sel1Q] ++
          [.drv .sel0 (ch.getLsbD 0), .drv .sel1 (ch.getLsbD 1), .dly 50000] } := by
  have hop (n : Nat) : microProgram (commandOf s.cmdQ) n = readProgram ch n := by rw [hc]; rfl
  obtain ⟨y0, y1, y2, y3, y4, y5, tail, rfl⟩ := exists_six_cons ins hlen
  simp only [List.forall_mem_cons] at hq
  obtain ⟨h0, h1, h2, h3, h4, h5, -⟩ := hq
  refine Eq.trans (run_queries (k + 4) s ch y0 y1 _ hs hc hp henv h0 h1) ?_
  refine Eq.trans (run_of_exec hs rfl h2.1 (exec_cmp_change hs rfl (hop 2) hne) rfl) ?_
  refine Eq.trans (run_of_exec hs rfl h3.1 (exec_drv .sel0 (ch.getLsbD 0) hs h3.2 rfl (hop 3)) rfl) ?_
  refine Eq.trans (run_of_exec hs rfl h4.1 (exec_drv .sel1 (ch.getLsbD 1) hs h4.2 rfl (hop 4)) rfl) ?_
  refine Eq.trans (run_of_exec hs rfl h5.1 (exec_settle hs rfl (hop 5)) rfl) ?_
  simp only [State.setLineReg, tSettle, List.append_assoc, List.cons_append, List.nil_append]
  rfl

/-- The channel select of READ on either path. -/
theorem run_select (k : Nat) (s : State) (ch : ChCode) (ins rest : List Inputs) (hs : s.seq = .run)
    (hc : commandOf s.cmdQ = .read ch) (hp : s.upc = 0) (henv : s.env = ins ++ rest)
    (hlen : selectSteps (s.changes ch) ≤ ins.length) (hq : ∀ y ∈ ins, y.quiet) :
    run Sys2Proof.core (k + selectSteps (s.changes ch)) s = run Sys2Proof.core k
      { s with
        sel0Q := if s.changes ch then ch.getLsbD 0 else s.sel0Q
        sel1Q := if s.changes ch then ch.getLsbD 1 else s.sel1Q
        prevCh := s.selectedChannel, chg := s.changes ch, disc := s.crosses ch
        upc := firstAcquire (s.crosses ch), env := ins.drop (selectSteps (s.changes ch)) ++ rest
        trace := s.trace ++ [.qry .sel0 s.sel0Q, .qry .sel1 s.sel1Q] ++
          (if s.changes ch then [.drv .sel0 (ch.getLsbD 0), .drv .sel1 (ch.getLsbD 1), .dly 50000] else []) } := by
  unfold State.crosses firstAcquire
  by_cases hsel : s.selectedChannel = ch
  · have hfalse : s.changes ch = false := by simp [State.changes, hsel]
    rw [hfalse] at hlen ⊢
    simpa [selectSteps, hsel] using run_select_same k s ch ins rest hs hc hp henv hlen hq hsel
  · have htrue : s.changes ch = true := by simp [State.changes, hsel]
    rw [htrue] at hlen ⊢
    simpa [selectSteps] using run_select_change k s ch ins rest hs hc hp henv hlen hq hsel

/-- READ from its acceptance to its end. -/
theorem run_read (s : State) (ch : ChCode) (ins rest : List Inputs) (before last : Nat) (hs : s.seq = .run)
    (hc : commandOf s.cmdQ = .read ch) (hp : s.upc = 0) (henv : s.env = ins ++ rest)
    (hpath : before = selectSteps (s.changes ch) ∧ last = discards (s.crosses ch))
    (hlen : ins.length = before + 150 * (last + 1) + 1) (hq : ∀ y ∈ ins, y.quiet)
    (hd : ∀ j ≤ last, doutAt ins (before + 150 * j + 1) = false) :
    run Sys2Proof.core (1 + 150 * (last + 1) + before) s = .next
      { s with
        sclkQ := false
        sel0Q := if s.changes ch then ch.getLsbD 0 else s.sel0Q
        sel1Q := if s.changes ch then ch.getLsbD 1 else s.sel1Q
        acc := shiftAll 0#32 (sampleLevels ins (before + 150 * last))
        result := sext24to32 (shiftAll 0#32 (sampleLevels ins (before + 150 * last)))
        seq := .idle, upc := 756, prevCh := s.selectedChannel, busy := false, done := true, rvalid := true
        chg := s.changes ch, disc := s.crosses ch, env := rest
        trace := s.trace ++ [.qry .sel0 s.sel0Q, .qry .sel1 s.sel1Q] ++
          (if s.changes ch then [.drv .sel0 (ch.getLsbD 0), .drv .sel1 (ch.getLsbD 1), .dly 50000] else []) ++
          (List.range (last + 1)).flatMap fun j => acquireTrace (sampleLevels ins (before + 150 * j)) } := by
  obtain ⟨hbefore, hlast⟩ := hpath
  obtain ⟨hstarts, hend⟩ := acquireStarts_of_path (s.crosses ch) ch
  rw [← hlast] at hstarts hend
  obtain ⟨y, hy⟩ : ∃ y, ins.drop (before + 150 * (last + 1)) = [y] :=
    List.length_eq_one_iff.mp (by rw [List.length_drop]; omega)
  have hyq : y.quiet := hq y (List.mem_of_mem_drop (hy ▸ List.mem_singleton_self y))
  have hselect := run_select (1 + 150 * (last + 1)) s ch ins rest hs hc hp henv (by omega) hq
  rw [← hbefore] at hselect
  refine hselect.trans ?_
  refine Eq.trans (run_acquires last 1 _ _ (ins.drop before) rest hs (fun j hj => by rw [hc]; exact hstarts j hj) rfl
    rfl (by rw [List.length_drop]; omega) (fun z hz => hq z (List.mem_of_mem_drop hz))
    fun j hj => by rw [doutAt_drop, ← Nat.add_assoc]; exact hd j hj) ?_
  rw [List.drop_drop, hy]
  refine Eq.trans (run_of_exec hs rfl hyq.1 (exec_finishRead hs hend (by rw [hc]; rfl)) rfl) ?_
  simp [run, sampleLevels_drop, hend]

/-- Settles O34: acceptance clears the flags, and the rest is READ on the path its comparison finds. -/
theorem readCommandRun : Obligations.ReadCommandRun := by
  unfold Obligations.ReadCommandRun
  intro s x ins rest ch hs henv hr hv hcmd hw changed crosses before count hlen hq hd
  have hc : commandOf x.cmd = .read ch := by rw [hcmd]; exact (Laws.EncodedFields.read ch).2.2
  have hcount : count = discards crosses + 1 := by simp only [count, discards]; split <;> rfl
  rw [hcount] at hlen hd ⊢
  rw [show before + 150 * (discards crosses + 1) + 2 = 1 + 150 * (discards crosses + 1) + before + 1 by omega]
  refine Eq.trans (run_of_legal_word hs henv hr hv (hc ▸ hw)) ?_
  exact run_read _ ch ins rest before _ rfl hc rfl rfl ⟨rfl, rfl⟩ hlen hq fun j hj => hd j (by omega)

end Sys2Proof.Machine
end

section
/-!
The sample invariant (20_memory.md R71, 43_read_settling.md R176): how the number of bits an acquisition has shifted in
follows its micro-operations, and that ACC holds as many of the last sampled levels.
-/

namespace Sys2Proof.Machine

/-! ## Counting the bits -/

theorem acquireOp_eq_startAcquire_iff (n : Nat) : acquireOp n = .startAcquire ↔ n = 0 := by
  unfold acquireOp pulseOp
  repeat' split
  all_goals simp
  all_goals omega

theorem pulseOp_eq_shiftIn_iff (p : Nat) : pulseOp p = .shiftIn ↔ p = 2 := by
  unfold pulseOp
  split <;> simp_all

/-- SHIFTIN stands at offsets `4 + 6k` below the 25th pulse. -/
theorem acquireOp_eq_shiftIn_iff (n : Nat) : acquireOp n = .shiftIn ↔ n < 146 ∧ n % 6 = 4 := by
  unfold acquireOp
  repeat' split
  all_goals simp [pulseOp_eq_shiftIn_iff]
  all_goals omega

/-- The count of shifted bits starts at the clear of ACC and grows at SHIFTIN only. -/
theorem bitsShifted_succ (n : Nat) (hn : n < 150) :
    (acquireOp n = .startAcquire ∧ bitsShifted (n + 1) = some 0) ∨
    (acquireOp n = .shiftIn ∧ ∃ m, bitsShifted n = some m ∧ bitsShifted (n + 1) = some (m + 1)) ∨
    (acquireOp n ≠ .startAcquire ∧ acquireOp n ≠ .shiftIn ∧ bitsShifted (n + 1) = bitsShifted n) := by
  rw [ne_eq, ne_eq, acquireOp_eq_startAcquire_iff, acquireOp_eq_shiftIn_iff]
  by_cases h0 : n = 0
  · left; subst h0; decide
  · right
    simp only [bitsShifted, if_neg h0, if_neg (Nat.succ_ne_zero n), Option.some.injEq]
    by_cases hs : n < 146 ∧ n % 6 = 4
    · exact .inl ⟨hs, _, rfl, by omega⟩
    · exact .inr ⟨h0, hs, by omega⟩

/-- The same for a command: the next position holds the bits the micro-operation leaves, or none. -/
theorem bitsHeld_succ (i : Instr) (n : Nat) (op : MicroOp) (h : microProgram i n = some op)
    (hp : op.isPlain = true) :
    bitsHeld i (n + 1) = none ∨ (op = .startAcquire ∧ bitsHeld i (n + 1) = some 0) ∨
    (op = .shiftIn ∧ ∃ m, bitsHeld i n = some m ∧ bitsHeld i (n + 1) = some (m + 1)) ∨
    (op ≠ .startAcquire ∧ op ≠ .shiftIn ∧ bitsHeld i (n + 1) = bitsHeld i n) := by
  cases i with
  | reset ch => exact .inl rfl
  | standby ch => exact .inl rfl
  | calofs ch =>
    right
    rcases calofsProgram_cases n op h with ⟨hn, rfl⟩ | ⟨hn, rfl⟩ | ⟨hn, rfl⟩ | ⟨hn, rfl⟩ | ⟨hn, rfl⟩ | ⟨hn, rfl⟩
    · exact bitsShifted_succ n hn
    all_goals subst hn; exact .inr (.inr ⟨nofun, nofun, rfl⟩)
  | read ch =>
    obtain ⟨h6, h756, rfl⟩ := acquire_of_isPlain_read ch n op h hp
    have hhere : bitsHeld (.read ch) n = bitsShifted ((n - 6) % 150) := by
      rw [bitsHeld, if_neg (by omega), if_neg (by omega)]
    have hnext : bitsHeld (.read ch) (n + 1) = none ∨
        bitsHeld (.read ch) (n + 1) = bitsShifted ((n - 6) % 150 + 1) := by
      rw [bitsHeld, if_neg (by omega)]
      split
      · rw [show (n - 6) % 150 + 1 = 150 by omega]
        exact .inr rfl
      · by_cases hlast : (n - 6) % 150 = 149
        · rw [show (n + 1 - 6) % 150 = 0 by omega]
          exact .inl rfl
        · rw [show (n + 1 - 6) % 150 = (n - 6) % 150 + 1 by omega]
          exact .inr rfl
    rcases hnext with hnone | hnext
    · exact .inl hnone
    · rw [hhere, hnext]
      exact .inr (bitsShifted_succ _ (by omega))

/-! ## What ACC holds -/

/-- ACC holds the last `n` levels sampled. -/
def State.Holds (s : State) (n : Nat) : Prop :=
  n ≤ (sampledLevels s.trace).length ∧ s.acc = shiftAll 0#32 (lastSampled n s.trace)

theorem sampleInv_iff (s : State) :
    s.SampleInv ↔
      (s.seq = .run → ∀ n, bitsHeld (commandOf s.cmdQ) s.upc = some n → s.Holds n) ∧
      (s.rvalid = true → 24 ≤ (sampledLevels s.trace).length ∧
        s.result = sext24to32 (shiftAll 0#32 (lastSampled 24 s.trace))) := by
  unfold State.SampleInv State.Holds
  cases bitsHeld (commandOf s.cmdQ) s.upc <;> simp

theorem sampledLevels_snoc_of_none (t : List Event) (e : Event) (h : e.sampled = none) :
    sampledLevels (t ++ [e]) = sampledLevels t := by
  simp only [sampledLevels, List.filterMap_append, List.filterMap_cons, h, List.filterMap_nil, List.append_nil]

theorem holds_of_unsampled (s t : State) (n : Nat) (e : Event) (h : s.Holds n) (he : e.sampled = none)
    (hacc : t.acc = s.acc) (htrace : t.trace = s.trace ++ [e]) : t.Holds n := by
  unfold State.Holds lastSampled at *
  rwa [hacc, htrace, sampledLevels_snoc_of_none _ _ he]

theorem holds_zero (s : State) (h : s.acc = 0#32) : s.Holds 0 := by
  simp [State.Holds, lastSampled, shiftAll, h]

theorem lastSampled_snoc (n : Nat) (t : List Event) (b : Level) :
    lastSampled (n + 1) (t ++ [.smp b]) = lastSampled n t ++ [b] := by
  have happ : sampledLevels (t ++ [.smp b]) = sampledLevels t ++ [b] := sampledLevels_append t [.smp b]
  rw [lastSampled, happ, List.length_append, List.length_singleton, Nat.add_sub_add_right,
    List.drop_append_of_le_length (Nat.sub_le _ _), lastSampled]

theorem holds_succ_of_sample (s t : State) (n : Nat) (b : Level) (h : s.Holds n) (hacc : t.acc = shiftInto s.acc b)
    (htrace : t.trace = s.trace ++ [.smp b]) : t.Holds (n + 1) := by
  obtain ⟨hlen, hs⟩ := h
  have happ : sampledLevels t.trace = sampledLevels s.trace ++ [b] := htrace ▸ sampledLevels_append s.trace [.smp b]
  refine ⟨by rw [happ, List.length_append]; exact Nat.add_le_add_right hlen 1, ?_⟩
  rw [htrace, lastSampled_snoc n s.trace b, shiftAll_append, ← hs, hacc]
  rfl

/-! ## The step -/

/-- A plain micro-operation without a failed access leaves in ACC the bits its next position is to hold. -/
theorem holds_plain (s : State) (i : Instr) (op : MicroOp) (hop : microProgram i s.upc = some op)
    (hp : op.isPlain = true) (he : op.access = none ∨ s.now.lineErr = false)
    (h : ∀ n, bitsHeld i s.upc = some n → s.Holds n) (n : Nat)
    (hn : bitsHeld i (microStep op s).upc = some n) : (microStep op s).Holds n := by
  rcases microStep_isPlain op s hp he with ⟨-, hm⟩ | ⟨sclk, pdwn, acc, e, hm, hother⟩
  · rw [hm] at hn ⊢
    exact h n hn
  have hupc : (microStep op s).upc = s.upc + 1 := by rw [hm]
  rw [hupc] at hn
  rcases bitsHeld_succ i s.upc op hop hp with hnone | ⟨rfl, hzero⟩ | ⟨rfl, m, hm0, hm1⟩ | ⟨hne0, hne1, hsame⟩
  · simp [hnone] at hn
  · rw [hzero] at hn
    cases hn
    rw [microStep_startAcquire s (he.resolve_left nofun)]
    exact holds_zero _ rfl
  · rw [hm1] at hn
    cases hn
    rw [microStep_shiftIn s (he.resolve_left nofun)]
    exact holds_succ_of_sample s _ m s.now.dout (h m hm0) rfl rfl
  · obtain ⟨hacc, hsampled⟩ := hother hne0 hne1
    rw [hsame] at hn
    rw [hm]
    exact holds_of_unsampled s _ n e (h n hn) hsampled hacc rfl

theorem bitsHeld_lastAcquire (ch : ChCode) : bitsHeld (.read ch) lastAcquire = none := by
  simp [bitsHeld, lastAcquire, bitsShifted]

/-- After the other micro-operations of READ that do not end it the next position holds no bits. -/
theorem bitsHeld_read_of_not_plain (s : State) (ch : ChCode) (op : MicroOp) (hop : readProgram ch s.upc = some op)
    (hp : op.isPlain = false) (he : op.access = none ∨ s.now.lineErr = false) (hend : op ≠ .finishRead) :
    bitsHeld (.read ch) (microStep op s).upc = none := by
  rcases readProgram_cases ch s.upc op hop with
    ⟨h, rfl⟩ | ⟨h, rfl⟩ | ⟨h, rfl⟩ | ⟨h, rfl⟩ | ⟨h, rfl⟩ | ⟨h, rfl⟩ | ⟨-, -, rfl⟩ | ⟨-, rfl⟩
  · rw [microStep_qry _ s (he.resolve_left nofun), State.nextUpc_upc, State.emit_upc, h]
    rfl
  · rw [microStep_qry _ s (he.resolve_left nofun), State.nextUpc_upc, State.emit_upc, h]
    rfl
  · rcases compareChannel_cases ch s with ⟨-, hm⟩ | ⟨-, hm⟩ <;> rw [microStep, hm]
    · exact bitsHeld_lastAcquire ch
    · rfl
  · rw [microStep_drv _ _ s (he.resolve_left nofun), State.nextUpc_upc, State.emit_upc, State.setLineReg_upc, h]
    rfl
  · rw [microStep_drv _ _ s (he.resolve_left nofun), State.nextUpc_upc, State.emit_upc, State.setLineReg_upc, h]
    rfl
  · rcases settle_cases s with ⟨-, hm⟩ | ⟨-, hm⟩ <;> rw [microStep, hm]
    · rfl
    · exact bitsHeld_lastAcquire ch
  · simp [isPlain_acquireOp] at hp
  · exact absurd rfl hend

/-- Every micro-operation of a running command that leaves it running. -/
theorem holds_microStep (s : State) (op : MicroOp) (hop : s.currentOp = some op)
    (h : ∀ n, bitsHeld (commandOf s.cmdQ) s.upc = some n → s.Holds n) (hrun : (microStep op s).seq = .run) (n : Nat)
    (hn : bitsHeld (commandOf s.cmdQ) (microStep op s).upc = some n) : (microStep op s).Holds n := by
  have he : op.access = none ∨ s.now.lineErr = false := by
    rcases microStep_cases op s with ⟨-, a, -, hm⟩ | ⟨rfl, -⟩ | ⟨rfl, -⟩ | ⟨he, -⟩
    · simp [hm] at hrun
    · exact .inl rfl
    · exact .inl rfl
    · exact he.symm
  cases hp : op.isPlain with
  | true => exact holds_plain s _ op hop hp he h n hn
  | false =>
    by_cases hread : ∃ ch, commandOf s.cmdQ = .read ch
    · obtain ⟨ch, hc⟩ := hread
      have hprog : readProgram ch s.upc = some op := by simpa [State.currentOp, hc, microProgram] using hop
      have hend : op ≠ .finishRead := by
        rintro rfl
        cases hrun
      rw [hc, bitsHeld_read_of_not_plain s ch op hprog hp he hend] at hn
      cases hn
    · rcases isPlain_or_finish_of_ne_read _ _ op (not_exists.mp hread) hop with hp' | rfl
      · simp [hp] at hp'
      · cases hrun

theorem finishRead_of_microProgram (i : Instr) (n : Nat) (h : microProgram i n = some .finishRead) :
    ∃ ch, i = .read ch ∧ n = 756 := by
  have hend := (microProgram_finish_iff i n _ h).mp (.inr rfl)
  by_cases hread : ∃ ch, i = .read ch
  · obtain ⟨ch, rfl⟩ := hread
    exact ⟨ch, rfl, hend⟩
  · rcases isPlain_or_finish_of_ne_read i n _ (not_exists.mp hread) h with hp | hp <;> cases hp

/-- Settles O50: the reset state is idle with RVALID = 0. -/
theorem resetMeetsTheSampleInvariant : Obligations.ResetMeetsTheSampleInvariant := by
  unfold Obligations.ResetMeetsTheSampleInvariant
  exact fun v => (sampleInv_iff _).mpr ⟨nofun, nofun⟩

/-- Settles O51: a running command keeps in ACC the bits of its position; RVALID is 0 while a command runs, and READ's
completion, whose position holds 24 bits, is where it is set. -/
theorem stepKeepsTheSampleInvariant : Obligations.StepKeepsTheSampleInvariant := by
  unfold Obligations.StepKeepsTheSampleInvariant
  intro s t hinv hsample hstep
  rw [sampleInv_iff] at hsample ⊢
  obtain ⟨hheld, hresult⟩ := hsample
  rcases step_cases s t hstep with
    ⟨-, rfl⟩ | ⟨-, ⟨-, -, rfl⟩ | ⟨hs, -, -, rfl⟩ | ⟨hs, -, hw, rfl⟩ | ⟨-, rfl⟩ | ⟨hs, op, hop, rfl⟩⟩
  · exact ⟨nofun, nofun⟩
  · exact ⟨hheld, hresult⟩
  · exact ⟨fun hr => by simp [hs] at hr, nofun⟩
  · refine ⟨fun _ n hn => ?_, nofun⟩
    have hnone (i : Instr) : bitsHeld i 0 = none := by cases i <;> rfl
    rw [State.advance_cmdQ, State.advance_upc, State.accept_upc, hnone] at hn
    cases hn
  · exact ⟨hheld, hresult⟩
  · refine ⟨fun hr n hn => ?_, fun hv => ?_⟩
    · exact holds_microStep s op hop (hheld hs) hr n ((microStep_frame op s).cmdQ ▸ hn)
    · obtain ⟨-, hrv, -⟩ := hinv.flags_of_run hs
      have hfin : op = .finishRead := by
        by_contra hne
        simp [((microStep_frame op s).result hne).2, hrv] at hv
      subst hfin
      obtain ⟨ch, hc, hp⟩ := finishRead_of_microProgram _ _ hop
      obtain ⟨hlen, hacc⟩ := hheld hs 24 (by rw [hc, hp]; rfl)
      exact ⟨hlen, congrArg sext24to32 hacc⟩

end Sys2Proof.Machine
end

section
/-!
Frames (43_read_settling.md R170, R180, R183, 44_lifecycle.md R191, R194, R197, 70_reset_and_hazards.md R246): what the
commands leave unchanged, from the frame of a micro-operation and the micro-operations each command is made of.
-/

namespace Sys2Proof.Machine

/-! ## What `exec` can do -/

theorem exec_cases (i : Instr) (s t : State) (h : exec i s = .next t) :
    (s.seq = .idle ∧ t = s.present i) ∨
    (s.seq = .run ∧ ∃ op, microProgram i s.upc = some op ∧ t = microStep op s) ∨ (s.seq = .faulted ∧ t = s) :=
  commandStep_cases i (microProgram i) s t (exec_eq_commandStep i s ▸ h)

/-- Presenting a command writes CMD_Q, SEQ, UPC and flags only. -/
theorem present_writes (i : Instr) (s : State) :
    ∃ cmdQ seq upc busy done rvalid rej chg disc, s.present i =
      { s with
        cmdQ := cmdQ, seq := seq, upc := upc, busy := busy, done := done, rvalid := rvalid, rej := rej, chg := chg
        disc := disc } := by
  rcases present_cases s i with ⟨-, h⟩ | ⟨-, h⟩
  · exact ⟨_, _, _, _, _, _, _, _, _, h⟩
  · exact ⟨_, _, _, _, _, _, _, _, _, h⟩

/-! ## Which command has which micro-operation -/

/-- Power-down is driven by RESET alone. -/
theorem microProgram_access_ne_pdwn (i : Instr) (n : Nat) (op : MicroOp) (hi : ∀ ch, i ≠ .reset ch)
    (h : microProgram i n = some op) (k : AccessKind) : op.access ≠ some (.pdwn, k) := by
  have hacq (m : Nat) : (acquireOp m).access ≠ some (.pdwn, k) := by
    rcases acquireOp_cases m with ho | ho | ho | ⟨v, ho⟩ | ho | ho <;> rw [ho] <;> simp [MicroOp.access, OutLine.line]
  cases i with
  | reset ch => exact absurd rfl (hi ch)
  | calofs ch =>
    rcases calofsProgram_cases n op h with ⟨-, rfl⟩ | ⟨-, rfl⟩ | ⟨-, rfl⟩ | ⟨-, rfl⟩ | ⟨-, rfl⟩ | ⟨-, rfl⟩
    · exact hacq n
    all_goals simp [MicroOp.access, OutLine.line]
  | standby ch =>
    rcases standbyProgram_cases n op h with ⟨-, rfl⟩ | ⟨-, rfl⟩ | ⟨-, rfl⟩ | ⟨-, rfl⟩ <;>
      simp [MicroOp.access, OutLine.line]
  | read ch =>
    rcases readProgram_cases ch n op h with
      ⟨-, rfl⟩ | ⟨-, rfl⟩ | ⟨-, rfl⟩ | ⟨-, rfl⟩ | ⟨-, rfl⟩ | ⟨-, rfl⟩ | ⟨-, -, rfl⟩ | ⟨-, rfl⟩
    case inr.inr.inr.inr.inr.inr.inl => exact hacq _
    all_goals simp [MicroOp.access, OutLine.line, SelLine.line]

/-- CMP and the completion with a result are READ's. -/
theorem ne_cmp_finishRead_of_ne_read (i : Instr) (n : Nat) (op : MicroOp) (hi : ∀ ch, i ≠ .read ch)
    (h : microProgram i n = some op) : (∀ ch, op ≠ .cmp ch) ∧ op ≠ .finishRead := by
  rcases isPlain_or_finish_of_ne_read i n op hi h with hp | rfl
  · exact ⟨fun ch hc => by simp [hc, MicroOp.isPlain] at hp, fun hc => by simp [hc, MicroOp.isPlain] at hp⟩
  · exact ⟨nofun, nofun⟩

/-- RESET drives power-down only and touches neither the clock nor DOUT. -/
theorem resetProgram_ops (n : Nat) (op : MicroOp) (h : resetProgram n = some op) :
    op.access ≠ some (.sclk, .drv) ∧ op ≠ .startAcquire ∧ op ≠ .shiftIn := by
  rcases resetProgram_cases n op h with ⟨-, rfl⟩ | ⟨-, rfl⟩ | ⟨-, rfl⟩ | ⟨-, rfl⟩ | ⟨-, rfl⟩ <;>
    simp [MicroOp.access, OutLine.line]

theorem standbyProgram_ops (n : Nat) (op : MicroOp) (h : standbyProgram n = some op) :
    op ≠ .startAcquire ∧ op ≠ .shiftIn := by
  rcases standbyProgram_cases n op h with ⟨-, rfl⟩ | ⟨-, rfl⟩ | ⟨-, rfl⟩ | ⟨-, rfl⟩ <;> simp

/-! ## The frames -/

/-- Settles O36: an idle engine is presented a command, a halted one does nothing, and a running one plays drives of
power-down, delays and the completion. -/
theorem resetFrame : Obligations.ResetFrame := by
  unfold Obligations.ResetFrame
  intro ch s t h
  rcases exec_cases _ s t h with ⟨hs, rfl⟩ | ⟨hs, op, hop, rfl⟩ | ⟨hs, rfl⟩
  · obtain ⟨_, _, _, _, _, _, _, _, _, hp⟩ := present_writes (.reset ch) s
    rw [hp]
    simp [hs]
  · have hf := microStep_frame op s
    have hl := microStep_lineReg op s
    have hsel := microProgram_access_ne_select (.reset ch) _ op (fun c => nofun) hop
    obtain ⟨hcmp, hfin⟩ := ne_cmp_finishRead_of_ne_read (.reset ch) _ op (fun c => nofun) hop
    obtain ⟨hclk, hstart, hshift⟩ := resetProgram_ops _ op hop
    obtain ⟨hres, hrv⟩ := hf.result hfin
    obtain ⟨hprev, hchg, hdisc⟩ := hf.change hcmp
    exact ⟨hl .sclk hclk, hl .sel0 (hsel .sel0 .drv), hl .sel1 (hsel .sel1 .drv), hf.acc hstart hshift, hres, hprev,
      hf.variant, hf.env, hf.draws, fun _ => ⟨hf.cmdQ, hrv, hf.rej, hchg, hdisc⟩, fun hi => by simp [hs] at hi,
      fun he => hf.fault (.inr he)⟩
  · simp

/-- Settles O37: as for RESET; the clock and, in CALOFS, ACC may be written, power-down not. -/
theorem calofsAndStandbyFrame : Obligations.CalofsAndStandbyFrame := by
  unfold Obligations.CalofsAndStandbyFrame
  intro i ch s t hi h
  have hread (c : ChCode) : i ≠ .read c := by rcases hi with rfl | rfl <;> exact nofun
  have hreset (c : ChCode) : i ≠ .reset c := by rcases hi with rfl | rfl <;> exact nofun
  rcases exec_cases _ s t h with ⟨hs, rfl⟩ | ⟨hs, op, hop, rfl⟩ | ⟨hs, rfl⟩
  · obtain ⟨_, _, _, _, _, _, _, _, _, hp⟩ := present_writes i s
    rw [hp]
    simp [hs]
  · have hf := microStep_frame op s
    have hl := microStep_lineReg op s
    have hsel := microProgram_access_ne_select _ _ op hread hop
    obtain ⟨hcmp, hfin⟩ := ne_cmp_finishRead_of_ne_read _ _ op hread hop
    obtain ⟨hres, hrv⟩ := hf.result hfin
    obtain ⟨hprev, hchg, hdisc⟩ := hf.change hcmp
    refine ⟨hl .pdwn (microProgram_access_ne_pdwn _ _ op hreset hop .drv), hl .sel0 (hsel .sel0 .drv),
      hl .sel1 (hsel .sel1 .drv), hres, hprev, ?_, hf.variant, hf.env, hf.draws,
      fun _ => ⟨hf.cmdQ, hrv, hf.rej, hchg, hdisc⟩, fun hi => by simp [hs] at hi, fun he => hf.fault (.inr he)⟩
    rintro rfl
    obtain ⟨hstart, hshift⟩ := standbyProgram_ops _ op hop
    exact hf.acc hstart hshift
  · simp

/-- Where READ has the micro-operations that write what its frame speaks of. -/
theorem readProgram_ops (ch : ChCode) (n : Nat) (op : MicroOp) (h : readProgram ch n = some op) :
    (op.access = some (.sel0, .drv) → n = 3) ∧ (op.access = some (.sel1, .drv) → n = 4) ∧
    (op.access = some (.sclk, .drv) ∨ op = .startAcquire ∨ op = .shiftIn → 6 ≤ n ∧ n < 756) ∧
    ((∃ c, op = .cmp c) → n = 2) ∧ (op = .finishRead → n = 756) := by
  have hacq (m : Nat) : (acquireOp m).access ≠ some (.sel0, .drv) ∧ (acquireOp m).access ≠ some (.sel1, .drv) ∧
      (∀ c, acquireOp m ≠ .cmp c) ∧ acquireOp m ≠ .finishRead := by
    rcases acquireOp_cases m with ho | ho | ho | ⟨v, ho⟩ | ho | ho <;> rw [ho] <;> simp [MicroOp.access, OutLine.line]
  rcases readProgram_cases ch n op h with
    ⟨hn, rfl⟩ | ⟨hn, rfl⟩ | ⟨hn, rfl⟩ | ⟨hn, rfl⟩ | ⟨hn, rfl⟩ | ⟨hn, rfl⟩ | ⟨h6, h756, rfl⟩ | ⟨hn, rfl⟩
  case inr.inr.inr.inr.inr.inr.inl => simp [hacq, h6, h756]
  all_goals simp [MicroOp.access, OutLine.line, SelLine.line, hn]

/-- Settles O38: what a running READ writes stands at one index or inside its acquisitions. -/
theorem readFrame : Obligations.ReadFrame := by
  unfold Obligations.ReadFrame
  intro ch s t h
  rcases exec_cases _ s t h with ⟨hs, rfl⟩ | ⟨hs, op, hop, rfl⟩ | ⟨hs, rfl⟩
  · obtain ⟨_, _, _, _, _, _, _, _, _, hp⟩ := present_writes (.read ch) s
    rw [hp]
    simp [hs]
  · have hf := microStep_frame op s
    have hl := microStep_lineReg op s
    obtain ⟨hsel0, hsel1, hacq, hcmp, hfin⟩ := readProgram_ops ch _ op hop
    have hcmp' (h2 : s.upc ≠ 2) := hf.change fun c hc => h2 (hcmp ⟨c, hc⟩)
    have hfin' (h756 : s.upc ≠ 756) := hf.result fun hc => h756 (hfin hc)
    have hpdwn := microProgram_access_ne_pdwn (.read ch) _ op (fun c => nofun) hop .drv
    refine ⟨hl .pdwn hpdwn, hf.variant, hf.env, hf.draws, fun h3 => hl .sel0 fun ha => h3 ⟨hs, hsel0 ha⟩,
      fun h4 => hl .sel1 fun ha => h4 ⟨hs, hsel1 ha⟩, fun h6 => ⟨?_, ?_⟩,
      fun h2 => (hcmp' fun hn => h2 ⟨hs, hn⟩).1, fun h756 => (hfin' fun hn => h756 ⟨hs, hn⟩).1,
      fun _ => ⟨hf.cmdQ, hf.rej, fun h2 => (hcmp' h2).2, fun h756 => (hfin' h756).2⟩, fun hi => by simp [hs] at hi,
      fun he => hf.fault (.inr he)⟩
    · exact hl .sclk fun ha => h6 ⟨hs, hacq (.inl ha)⟩
    · exact hf.acc (fun ho => h6 ⟨hs, hacq (.inr (.inl ho))⟩) fun ho => h6 ⟨hs, hacq (.inr (.inr ho))⟩
  · simp

/-! ## Power-down -/

/-- A micro-operation that does not drive power-down does the same at either level of it. -/
theorem microStep_with_pdwnQ (op : MicroOp) (s : State) (p : Level) (h : op.access ≠ some (.pdwn, .drv)) :
    microStep op { s with pdwnQ := p } = { microStep op s with pdwnQ := p } := by
  have hnow : State.now { s with pdwnQ := p } = s.now := rfl
  cases op with
  | drv l v =>
    simp only [microStep, drive, hnow]
    cases l with
    | pdwn => exact absurd rfl h
    | sclk => split <;> rfl
    | sel0 => split <;> rfl
    | sel1 => split <;> rfl
  | startAcquire =>
    simp only [microStep, startAcquire, hnow]
    split <;> rfl
  | waitLow =>
    simp only [microStep, waitLow, State.sample, hnow]
    cases s.now.lineErr <;> cases s.now.dout <;> rfl
  | shiftIn =>
    simp only [microStep, shiftIn, State.sample, hnow]
    cases s.now.lineErr <;> rfl
  | qry l =>
    simp only [microStep, query, hnow]
    split <;> rfl
  | dly n => rfl
  | cmp ch => rfl
  | settle => rfl
  | finish => rfl
  | finishRead => rfl

/-- Settles O40: presentation and halting do not look at power-down, and no micro-operation of these commands does. -/
theorem onlyResetDependsOnPowerDown : Obligations.OnlyResetDependsOnPowerDown := by
  unfold Obligations.OnlyResetDependsOnPowerDown
  intro i s t p hi h
  rcases exec_cases _ s t h with ⟨hs, rfl⟩ | ⟨hs, op, hop, rfl⟩ | ⟨hs, rfl⟩
  · have hpresent : State.present { s with pdwnQ := p } i = { s.present i with pdwnQ := p } := by
      unfold State.present
      split <;> rfl
    obtain ⟨_, _, _, _, _, _, _, _, _, hp⟩ := present_writes i s
    exact ⟨by rw [hp], Eq.trans (exec_of_idle i _ hs) (congrArg _ hpresent)⟩
  · have hne := microProgram_access_ne_pdwn i _ op hi hop .drv
    exact ⟨microStep_lineReg op s .pdwn hne,
      Eq.trans (exec_of_run i _ op hs hop) (congrArg _ (microStep_with_pdwnQ op s p hne))⟩
  · exact ⟨rfl, exec_of_faulted i _ hs⟩

end Sys2Proof.Machine
end

section
/-!
What a step does to the trace, the lines, RESULT and the position (10_state.md R23, R39, 20_memory.md R69,
43_read_settling.md R183).
-/

namespace Sys2Proof.Machine

theorem lineReg_setLineReg (s : State) (l m : OutLine) (v : Level) :
    (s.setLineReg m v).lineReg l = if m = l then v else s.lineReg l := by
  cases l <;> cases m <;> rfl

/-- A micro-operation records a drive of a line exactly where it writes the line's register. -/
theorem microStep_drives (op : MicroOp) (s : State) (l : OutLine) :
    (∃ v, (microStep op s).trace = s.trace ++ [.drv l v] ∧ (microStep op s).lineReg l = v) ∨
    ((microStep op s).lineReg l = s.lineReg l ∧ ∀ v, (microStep op s).trace ≠ s.trace ++ [.drv l v]) := by
  have hfail (m : Line) (k : AccessKind) : (s.takeLineFault m k).lineReg l = s.lineReg l := by cases l <;> rfl
  have hreg (t : State) (e : Event) : (t.emit e).nextUpc.lineReg l = t.lineReg l := by cases l <;> rfl
  cases op with
  | drv m v =>
    rcases drive_cases m v s with ⟨-, h⟩ | ⟨-, h⟩ <;> rw [microStep, h]
    · simp [hfail]
    · by_cases hm : m = l
      · exact .inl ⟨v, by simp [hm], by simp [hreg, lineReg_setLineReg, hm]⟩
      · simp [hreg, lineReg_setLineReg, hm]
  | startAcquire =>
    rcases startAcquire_cases s with ⟨-, h⟩ | ⟨-, h⟩ <;> rw [microStep, h]
    · simp [hfail]
    · cases l <;> simp [State.lineReg]
  | waitLow =>
    rcases waitLow_cases s with ⟨-, h⟩ | ⟨-, -, h⟩ | ⟨-, -, h⟩ <;> rw [microStep, h]
    · simp [hfail]
    · simp [hreg]
    · simp
  | shiftIn =>
    rcases shiftIn_cases s with ⟨-, h⟩ | ⟨-, h⟩ <;> rw [microStep, h]
    · simp [hfail]
    · cases l <;> simp [State.lineReg]
  | qry m =>
    rcases query_cases m s with ⟨-, h⟩ | ⟨-, h⟩ <;> rw [microStep, h]
    · simp [hfail]
    · simp [hreg]
  | dly n => simp [microStep_dly, hreg]
  | cmp ch => exact .inr ⟨rfl, fun v => by simp [microStep, compareChannel]⟩
  | settle => exact .inr ⟨rfl, fun v => by simp [microStep, settle]⟩
  | finish => exact .inr ⟨rfl, fun v => by simp [microStep, complete]⟩
  | finishRead => exact .inr ⟨rfl, fun v => by simp [microStep, completeRead, complete]⟩

/-- Settles O41: outside a micro-operation neither the registers nor the trace change. -/
theorem lineRegistersFollowTheDrives : Obligations.LineRegistersFollowTheDrives := by
  unfold Obligations.LineRegistersFollowTheDrives
  intro s t l h hr
  rcases step_cases s t h with
    ⟨h0, -⟩ | ⟨-, ⟨-, -, rfl⟩ | ⟨-, -, -, rfl⟩ | ⟨-, -, -, rfl⟩ | ⟨-, rfl⟩ | ⟨-, op, -, rfl⟩⟩
  · simp [hr] at h0
  · exact .inr ⟨rfl, by simp⟩
  · exact .inr ⟨rfl, by simp⟩
  · exact .inr ⟨rfl, by simp⟩
  · exact .inr ⟨rfl, by simp⟩
  · exact microStep_drives op s l

/-- A micro-operation adds at most one event. -/
theorem microStep_trace (op : MicroOp) (s : State) :
    (microStep op s).trace = s.trace ∨ ∃ e, (microStep op s).trace = s.trace ++ [e] := by
  cases op with
  | drv l v => rcases drive_cases l v s with ⟨-, h⟩ | ⟨-, h⟩ <;> simp [microStep, h]
  | startAcquire => rcases startAcquire_cases s with ⟨-, h⟩ | ⟨-, h⟩ <;> simp [microStep, h]
  | waitLow => rcases waitLow_cases s with ⟨-, h⟩ | ⟨-, -, h⟩ | ⟨-, -, h⟩ <;> simp [microStep, h]
  | shiftIn => rcases shiftIn_cases s with ⟨-, h⟩ | ⟨-, h⟩ <;> simp [microStep, h]
  | qry l => rcases query_cases l s with ⟨-, h⟩ | ⟨-, h⟩ <;> simp [microStep, h]
  | dly n => exact .inr ⟨_, rfl⟩
  | cmp ch => exact .inl rfl
  | settle => exact .inr ⟨_, rfl⟩
  | finish => exact .inl rfl
  | finishRead => exact .inl rfl

/-- Settles O42: engine reset, holding, rejection and acceptance record nothing. -/
theorem eachStepAddsAtMostOneEvent : Obligations.EachStepAddsAtMostOneEvent := by
  unfold Obligations.EachStepAddsAtMostOneEvent
  intro s t h
  rcases step_cases s t h with
    ⟨-, rfl⟩ | ⟨hr, ⟨-, -, rfl⟩ | ⟨-, -, -, rfl⟩ | ⟨-, -, -, rfl⟩ | ⟨-, rfl⟩ | ⟨hs, op, -, rfl⟩⟩
  · exact .inl rfl
  · exact .inl rfl
  · exact .inl rfl
  · exact .inl rfl
  · exact .inl rfl
  · exact (microStep_trace op s).imp id fun he => ⟨hs, hr, he⟩

/-- Settles O43: RESULT is in the frame of every micro-operation but READ's completion. -/
theorem resultIsWrittenOnlyByReadCompletion : Obligations.ResultIsWrittenOnlyByReadCompletion := by
  unfold Obligations.ResultIsWrittenOnlyByReadCompletion
  intro s t h hr hne
  rcases step_cases s t h with
    ⟨h0, -⟩ | ⟨-, ⟨-, -, rfl⟩ | ⟨-, -, -, rfl⟩ | ⟨-, -, -, rfl⟩ | ⟨-, rfl⟩ | ⟨hs, op, hop, rfl⟩⟩
  · simp [hr] at h0
  · exact absurd rfl hne
  · exact absurd rfl hne
  · exact absurd rfl hne
  · exact absurd rfl hne
  · have hfin : op = .finishRead := by
      by_contra hop
      exact hne ((microStep_frame op s).result hop).1
    subst hfin
    obtain ⟨ch, hc, hp⟩ := finishRead_of_microProgram _ _ hop
    exact ⟨hs, hp, ⟨ch, hc⟩, rfl, rfl, rfl, rfl, rfl⟩

/-- The position of a command in flight moves on, but for a high poll, a failed access and the completion. -/
theorem microStep_upc (i : Instr) (s : State) (op : MicroOp) (hop : microProgram i s.upc = some op) :
    s.upc < (microStep op s).upc ∨ ((microStep op s).upc = s.upc ∧
      (microStep op s = s ∨ (microStep op s).seq = .faulted ∨
        ((microStep op s).seq = .idle ∧ (microStep op s).done = true))) := by
  rcases microStep_cases op s with ⟨-, a, -, h⟩ | ⟨-, h⟩ | ⟨-, h⟩ | ⟨he, hf, hfr, -⟩
  · simp [h]
  · simp [h, complete]
  · simp [h, completeRead, complete]
  · cases hp : op.isPlain with
    | true =>
      rcases microStep_isPlain op s hp he.symm with ⟨-, h⟩ | ⟨_, _, _, _, h, -⟩
      · simp [h]
      · simp [h]
    | false =>
      left
      by_cases hread : ∃ ch, i = .read ch
      · obtain ⟨ch, rfl⟩ := hread
        rcases readProgram_cases ch s.upc op hop with
          ⟨hn, rfl⟩ | ⟨hn, rfl⟩ | ⟨hn, rfl⟩ | ⟨hn, rfl⟩ | ⟨hn, rfl⟩ | ⟨hn, rfl⟩ | ⟨-, -, rfl⟩ | ⟨-, rfl⟩
        · simp [microStep_qry _ s (he.resolve_right nofun)]
        · simp [microStep_qry _ s (he.resolve_right nofun)]
        · rcases compareChannel_cases ch s with ⟨-, h⟩ | ⟨-, h⟩ <;> simp [microStep, h, hn, lastAcquire]
        · simp [microStep_drv _ _ s (he.resolve_right nofun)]
        · simp [microStep_drv _ _ s (he.resolve_right nofun)]
        · rcases settle_cases s with ⟨-, h⟩ | ⟨-, h⟩ <;> simp [microStep, h, hn, lastAcquire]
        · simp [isPlain_acquireOp] at hp
        · exact absurd rfl hfr
      · rcases isPlain_or_finish_of_ne_read i _ op (not_exists.mp hread) hop with h | h
        · simp [h] at hp
        · exact absurd h hf

/-- Settles O44: a running command plays the micro-operation at its position, and no transfer leads back. -/
theorem positionNeverMovesBack : Obligations.PositionNeverMovesBack := by
  unfold Obligations.PositionNeverMovesBack
  intro i s t hs h
  rcases exec_cases _ s t h with ⟨hs', -⟩ | ⟨-, op, hop, rfl⟩ | ⟨hs', -⟩
  · simp [hs] at hs'
  · rcases microStep_upc i s op hop with hlt | ⟨heq, hstay⟩
    · exact ⟨hlt.le, fun heq => absurd heq hlt.ne'⟩
    · exact ⟨heq.ge, fun _ => hstay⟩
  · simp [hs] at hs'

end Sys2Proof.Machine
end

section
/-!
Words, channels, ports and delays (10_state.md R30, R33, R44, R50, 30_encoding.md R90 to R100, 42_channel_select.md
R157, 60_exceptions.md R232).
-/

namespace Sys2Proof.Machine

/-! ## Words -/

theorem commandOf_encode (i : Instr) : commandOf (encode i) = i := by
  cases i with
  | reset ch => exact (Laws.EncodedFields.reset ch).2.2
  | calofs ch => exact (Laws.EncodedFields.calofs ch).2.2
  | standby ch => exact (Laws.EncodedFields.standby ch).2.2
  | read ch => exact (Laws.EncodedFields.read ch).2.2

/-- Settles O1: the decoder answers the command a word names where it is legal, and naming inverts encoding. -/
theorem decodeAnswersExactlyTheLegalEncodings : Obligations.DecodeAnswersExactlyTheLegalEncodings := by
  unfold Obligations.DecodeAnswersExactlyTheLegalEncodings
  intro v w i
  have hinv : commandOf w = i ↔ encode i = w :=
    ⟨fun h => by rw [← h, encode_commandOf], fun h => by rw [← h, commandOf_encode]⟩
  rw [decode_ok_iff_commandOf, hinv]

/-- Settles O2: ten words in each variant. -/
theorem wordsOfTheOpcodeMapDecode : Obligations.WordsOfTheOpcodeMapDecode := by
  unfold Obligations.WordsOfTheOpcodeMapDecode
  refine ⟨fun v => ?_, by decide⟩
  cases v <;> decide

theorem illegal_word_iff (v : Variant) (w : Cmd) : (commandOf w).wellFormed v = false ↔ v = .a ∧ w = 0xF#4 := by
  cases v <;> revert w <;> decide

/-- Settles O3: the decoder refuses a word exactly where its command is illegal, which is 4'hF in variant A. -/
theorem oneIllegalWordInVariantA : Obligations.OneIllegalWordInVariantA := by
  unfold Obligations.OneIllegalWordInVariantA
  intro v w
  rw [← illegal_word_iff, decode]
  cases (commandOf w).wellFormed v <;> simp

/-- Settles O4: the lines looked up in the table of each variant. -/
theorem assemblerLinesByVariant : Obligations.AssemblerLinesByVariant := by
  unfold Obligations.AssemblerLinesByVariant
  refine ⟨by decide, by decide, by decide, by decide, by decide, by decide, by decide, fun v => ?_⟩
  cases v <;> decide

/-! ## Channels -/

/-- Settles O6: a code is its two levels; the inverse mapping misses only variant A's pair (high, high). -/
theorem selectMappingIsABijection : Obligations.SelectMappingIsABijection := by
  unfold Obligations.SelectMappingIsABijection
  refine ⟨by decide, fun v ch => ?_, fun v q1 q0 => ?_⟩
  · cases v <;> revert ch <;> decide
  · cases v <;> cases q1 <;> cases q0 <;> decide

/-! ## Ports -/

/-- Settles O8: the reset table. -/
theorem stateAfterEngineReset : Obligations.StateAfterEngineReset := by
  unfold Obligations.StateAfterEngineReset
  decide

theorem outputs_of_released (s : State) (hr : s.now.rstN = true) :
    s.outputs =
      { cmdReady := s.seq == .idle, status := s.status, result := if s.rvalid then some s.result else none
        prevCh := s.prevCh, faultCause := s.faultCause, sclk := s.sclkQ, pdwn := s.pdwnQ, sel0 := s.sel0Q
        sel1 := s.sel1Q } := by
  simp [State.outputs, State.cmdReady, hr]

theorem outputs_of_asserted (s : State) (hr : s.now.rstN = false) :
    s.outputs =
      { cmdReady := false, status := 0#7, result := none, prevCh := 0#2, faultCause := 0#5, sclk := false, pdwn := false
        sel0 := false, sel1 := false } := by
  have hstatus : s.engineReset.status = 0#7 := show State.reset.status = 0#7 by decide
  simp [State.outputs, State.cmdReady, hr, hstatus, State.reset]

theorem status_bits (s : State) :
    s.status.getLsbD 0 = s.busy ∧ s.status.getLsbD 1 = s.done ∧ s.status.getLsbD 2 = s.rvalid ∧
    s.status.getLsbD 3 = s.rej ∧ s.status.getLsbD 4 = s.fault ∧ s.status.getLsbD 5 = s.chg ∧
    s.status.getLsbD 6 = s.disc := by
  simp only [State.status, BitVec.getLsbD_append, BitVec.getLsbD_ofBool]
  simp

/-- Settles O52: the ports with engine reset released and asserted, STATUS bit by bit. -/
theorem outputPortsShowTheRegisters : Obligations.OutputPortsShowTheRegisters := by
  unfold Obligations.OutputPortsShowTheRegisters
  refine fun s => ⟨fun hr => ?_, outputs_of_asserted s⟩
  obtain ⟨h0, h1, h2, h3, h4, h5, h6⟩ := status_bits s
  rw [outputs_of_released s hr]
  exact ⟨by simp, h0, h1, h2, h3, h4, h5, h6, rfl, rfl, rfl, rfl, rfl, rfl⟩

/-- Settles O53: result_o has a value exactly while RVALID = 1 and engine reset is released. -/
theorem resultIsReadableOnlyWhileValid : Obligations.ResultIsReadableOnlyWhileValid := by
  unfold Obligations.ResultIsReadableOnlyWhileValid
  intro s
  refine ⟨fun hv hr => by simp [State.hostReadResult, outputs_of_released s hr, hv], fun h => ?_⟩
  cases hr : s.now.rstN with
  | false => simp [State.hostReadResult, outputs_of_asserted s hr]
  | true => simp [State.hostReadResult, outputs_of_released s hr, show s.rvalid = false by simpa [hr] using h]

/-! ## Delays -/

/-- The delays of the micro-programs are four of the constants of 00_scope.md R6. -/
theorem delayNs_of_microProgram (i : Instr) (n : Nat) (op : MicroOp) (d : Nat) (hop : microProgram i n = some op)
    (hd : op.delayNs = some d) : d = 50 ∨ d = 100 ∨ d = 26000 ∨ d = 50000 := by
  have hacq (m : Nat) (h : (acquireOp m).delayNs = some d) : d = 50 ∨ d = 100 ∨ d = 26000 ∨ d = 50000 := by
    rcases acquireOp_cases m with ho | ho | ho | ⟨v, ho⟩ | ho | ho <;> rw [ho] at h <;> cases h <;> decide
  cases i with
  | reset ch =>
    rcases resetProgram_cases n op hop with ⟨-, rfl⟩ | ⟨-, rfl⟩ | ⟨-, rfl⟩ | ⟨-, rfl⟩ | ⟨-, rfl⟩ <;> cases hd <;> decide
  | calofs ch =>
    rcases calofsProgram_cases n op hop with ⟨-, rfl⟩ | ⟨-, rfl⟩ | ⟨-, rfl⟩ | ⟨-, rfl⟩ | ⟨-, rfl⟩ | ⟨-, rfl⟩
    · exact hacq n hd
    all_goals cases hd <;> decide
  | standby ch =>
    rcases standbyProgram_cases n op hop with ⟨-, rfl⟩ | ⟨-, rfl⟩ | ⟨-, rfl⟩ | ⟨-, rfl⟩ <;> cases hd
  | read ch =>
    rcases readProgram_cases ch n op hop with
      ⟨-, rfl⟩ | ⟨-, rfl⟩ | ⟨-, rfl⟩ | ⟨-, rfl⟩ | ⟨-, rfl⟩ | ⟨-, rfl⟩ | ⟨-, -, rfl⟩ | ⟨-, rfl⟩
    case inr.inr.inr.inr.inr.inr.inl => exact hacq _ hd
    all_goals cases hd <;> decide

theorem timerLoad_mono (num den : Nat) {d d' : Nat} (h : d ≤ d') : timerLoad num den d ≤ timerLoad num den d' :=
  Nat.div_le_div_right (Nat.sub_le_sub_right (Nat.add_le_add_right (Nat.mul_le_mul_right den h) num) 1)

/-- The load lasts at least the delay: it is rounded up. -/
theorem le_timerLoad_mul (num den d : Nat) (hnum : 0 < num) : d * den ≤ timerLoad num den d * num := by
  rw [timerLoad, ← Nat.ceilDiv_eq_add_pred_div, Nat.mul_comm _ num]
  exact le_smul_ceilDiv hnum

/-- Settles O54: each delay is at most the settling time, whose load the timer's least width holds. -/
theorem delaysFitTheTimer : Obligations.DelaysFitTheTimer := by
  unfold Obligations.DelaysFitTheTimer
  intro i n op d hop hd
  have hconst := delayNs_of_microProgram i n op d hop hd
  refine ⟨hconst, fun num den hnum _ => ⟨?_, le_timerLoad_mul num den d hnum⟩⟩
  have hle : d ≤ tSettle := by
    simp only [tSettle]
    omega
  calc timerLoad num den d ≤ timerLoad num den tSettle := timerLoad_mono num den hle
    _ < timerLoad num den tSettle + 1 := Nat.lt_succ_self _
    _ ≤ 2 ^ timerWidth num den := Nat.le_pow_clog (by decide) _

end Sys2Proof.Machine
end

section
/-!
The end of a command and of a run (70_reset_and_hazards.md R263): the step that ends a command, and that a run which has
ended well has accepted every word it took and carries the last one in CMD_Q.
-/

namespace Sys2Proof.Machine

/-! ## The end of a command -/

theorem completed_iff (s : State) : s.completed = true ↔ s.seq = .idle ∧ s.done = true := by
  simp [State.completed]

theorem halted_iff (s : State) : s.halted = true ↔ s.seq = .faulted := by
  simp [State.halted]

theorem rejected_iff (s : State) : s.rejected = true ↔ s.seq = .idle ∧ s.rej = true ∧ s.done = false := by
  simp [State.rejected, and_assoc]

theorem ended_iff (s : State) :
    s.ended = true ↔ s.completed = true ∨ s.halted = true ∨ s.rejected = true := by
  simp [State.ended, or_assoc]

/-- A step of a running command completes it at its end index, faults it at a failed access, else leaves it running. -/
theorem step_run_cases (s t : State) (h : step s = .next t) (hr : s.now.rstN = true) (hs : s.seq = .run) :
    (s.upc ≠ endIndex (commandOf s.cmdQ) ∧ t.seq = .faulted ∧ s.now.lineErr = true ∧
      ∃ op a, s.currentOp = some op ∧ op.access = some a) ∨
    (s.upc = endIndex (commandOf s.cmdQ) ∧ t.seq = .idle ∧ t.done = true ∧
      ¬∃ op a, s.currentOp = some op ∧ op.access = some a) ∨
    (s.upc ≠ endIndex (commandOf s.cmdQ) ∧ t.seq = .run ∧
      ¬(s.now.lineErr = true ∧ ∃ op a, s.currentOp = some op ∧ op.access = some a)) := by
  rcases step_cases s t h with
    ⟨h0, -⟩ | ⟨-, ⟨hs', -⟩ | ⟨hs', -⟩ | ⟨hs', -⟩ | ⟨hs', -⟩ | ⟨-, op, hop, rfl⟩⟩
  · simp [hr] at h0
  · simp [hs] at hs'
  · simp [hs] at hs'
  · simp [hs] at hs'
  · simp [hs] at hs'
  have hend := microProgram_finish_iff _ _ _ hop
  have hcur (op' : MicroOp) (h' : s.currentOp = some op') : op' = op := Option.some.inj (h'.symm.trans hop)
  rcases microStep_cases op s with ⟨he, a, ha, hm⟩ | ⟨rfl, hm⟩ | ⟨rfl, hm⟩ | ⟨he, hf, hfr, hseq, -⟩
  · refine .inl ⟨fun hn => ?_, by simp [hm], he, op, a, hop, ha⟩
    rcases hend.mpr hn with rfl | rfl <;> cases ha
  · refine .inr (.inl ⟨hend.mp (.inl rfl), rfl, rfl, ?_⟩)
    rintro ⟨op', a, h', ha⟩
    cases hcur op' h'
    cases ha
  · refine .inr (.inl ⟨hend.mp (.inr rfl), rfl, rfl, ?_⟩)
    rintro ⟨op', a, h', ha⟩
    cases hcur op' h'
    cases ha
  · refine .inr (.inr ⟨fun hn => (hend.mpr hn).elim hf hfr, hseq.trans hs, ?_⟩)
    rintro ⟨he', op', a, h', ha⟩
    cases hcur op' h'
    simp [he', ha] at he

/-- A step that takes a word accepts it where it is legal and rejects it where it is not. -/
theorem step_takenWord_cases (s t : State) (h : step s = .next t) (w : Cmd) (hw : s.takenWord = some w) :
    ((commandOf w).wellFormed s.variant = true ∧ t = (s.accept w).advance) ∨
    ((commandOf w).wellFormed s.variant = false ∧ t = s.reject.advance) := by
  obtain ⟨hr, hs, hv, rfl⟩ := (takenWord_eq_some s w).mp hw
  cases hlegal : (commandOf s.now.cmd).wellFormed s.variant with
  | true =>
    rw [step_of_legal_word s hr hs hv hlegal] at h
    cases h
    exact .inl ⟨rfl, rfl⟩
  | false =>
    rw [step_of_illegal_word s hr hs hv hlegal] at h
    cases h
    exact .inr ⟨rfl, rfl⟩

/-- Settles O56: the three ends of a running command exclude each other, a taken word is accepted or rejected, and a
completed or rejecting engine is idle. -/
theorem commandsEndAsCompletedFaultedOrRejected : Obligations.CommandsEndAsCompletedFaultedOrRejected := by
  unfold Obligations.CommandsEndAsCompletedFaultedOrRejected
  intro s t h hr
  refine ⟨fun hs => ?_, fun w hw => ?_, fun hend hr' => ?_⟩
  · rw [← Bool.not_eq_true, ended_iff, completed_iff, halted_iff, rejected_iff]
    have hcases := step_run_cases s t h hr hs
    generalize (∃ op a, s.currentOp = some op ∧ op.access = some a) = access at hcases ⊢
    rcases hcases with ⟨hp, hseq, he, hacc⟩ | ⟨hp, hseq, hdone, hacc⟩ | ⟨hp, hseq, hacc⟩
    · simp [hp, hseq, he, hacc]
    · simp [hp, hseq, hdone, hacc]
    · simpa [hp, hseq] using hacc
  · obtain ⟨-, hs, -⟩ := (takenWord_eq_some s w).mp hw
    rw [ended_iff, completed_iff, halted_iff, rejected_iff]
    rcases step_takenWord_cases s t h w hw with ⟨hlegal, rfl⟩ | ⟨hlegal, rfl⟩
    · simp [hlegal]
    · simp [hlegal, hs]
  · have hidle : t.seq = .idle := hend.elim (fun hc => ((completed_iff t).mp hc).1) fun hj => ((rejected_iff t).mp hj).1
    simp [State.cmdReady, hidle, hr']

/-! ## The end of a run -/

theorem step_of_run_succ (k : Nat) (s t : State) (h : Host.Core.run Sys2Proof.core (k + 1) s = .next t) :
    ∃ u, step s = .next u ∧ Host.Core.run Sys2Proof.core k u = .next t := by
  cases hstep : step s with
  | next u => exact ⟨u, rfl, run_succ k s u hstep ▸ h⟩
  | fault r =>
    have hstep' : Sys2Proof.core.step s = .fault r := hstep
    simp [Host.Core.run, hstep'] at h
  | refused r =>
    have hstep' : Sys2Proof.core.step s = .refused r := hstep
    simp [Host.Core.run, hstep'] at h

/-- Where no step is a rejection, every word taken is legal. -/
theorem wordsTaken_legal (k : Nat) (s t : State) (h : Host.Core.run Sys2Proof.core k s = .next t)
    (hn : noneRejected k s = true) : ∀ w ∈ wordsTaken k s, (commandOf w).wellFormed s.variant = true := by
  induction k generalizing s with
  | zero => simp [wordsTaken]
  | succ k ih =>
    obtain ⟨u, hstep, hrun⟩ := step_of_run_succ k s t h
    rw [noneRejected_succ k s u hstep, Bool.and_eq_true, bne_iff_ne, ne_eq, move_reject_iff] at hn
    obtain ⟨hmove, hrest⟩ := hn
    intro w hw
    rw [wordsTaken_succ k s u hstep, List.mem_append, Option.mem_toList] at hw
    rcases hw with hw | hw
    · by_contra hillegal
      exact hmove ⟨w, hw, by simpa using hillegal⟩
    · rw [← step_variant s u hstep]
      exact ih u hrun hrest w hw

/-- CMD_Q is the word of a command that runs or has completed: not cut short by engine reset, a fault or a rejection. -/
def State.Carries (s : State) : Prop := s.seq = .run ∨ s.completed = true

/-- Only a state that carries its command steps to one that does, unless the step takes a word. -/
theorem carries_of_step (s t : State) (h : step s = .next t) (hw : s.takenWord = none) (ht : t.Carries) :
    s.Carries ∧ t.cmdQ = s.cmdQ := by
  unfold State.Carries at *
  rw [completed_iff] at *
  rcases step_cases s t h with
    ⟨-, rfl⟩ | ⟨hr, ⟨-, -, rfl⟩ | ⟨hs, hv, -⟩ | ⟨hs, hv, -⟩ | ⟨-, rfl⟩ | ⟨hs, op, -, rfl⟩⟩
  · simp [State.reset] at ht
  · exact ⟨ht, rfl⟩
  · simp [(takenWord_eq_some s _).mpr ⟨hr, hs, hv, rfl⟩] at hw
  · simp [(takenWord_eq_some s _).mpr ⟨hr, hs, hv, rfl⟩] at hw
  · exact ⟨ht, rfl⟩
  · exact ⟨.inl hs, (microStep_frame op s).cmdQ⟩

/-- At the end of a run without rejections whose command has completed, CMD_Q is the last word taken; where none was, it
is still the word the run began with. -/
theorem cmdQ_of_run (k : Nat) (s t : State) (h : Host.Core.run Sys2Proof.core k s = .next t)
    (hn : noneRejected k s = true) (hc : t.completed = true) :
    (wordsTaken k s).getLast?.getD s.cmdQ = t.cmdQ ∧ (wordsTaken k s = [] → s.Carries) := by
  induction k generalizing s with
  | zero =>
    cases h
    exact ⟨rfl, fun _ => .inr hc⟩
  | succ k ih =>
    obtain ⟨u, hstep, hrun⟩ := step_of_run_succ k s t h
    rw [noneRejected_succ k s u hstep, Bool.and_eq_true, bne_iff_ne, ne_eq, move_reject_iff] at hn
    obtain ⟨hmove, hrest⟩ := hn
    obtain ⟨hlast, hcarries⟩ := ih u hrun hrest
    rw [wordsTaken_succ k s u hstep]
    cases hw : s.takenWord with
    | some w =>
      have hu : u.cmdQ = w := by
        rcases step_takenWord_cases s u hstep w hw with ⟨-, rfl⟩ | ⟨hillegal, -⟩
        · rfl
        · exact absurd ⟨w, hw, hillegal⟩ hmove
      rw [hu] at hlast
      simp [List.getLast?_cons, hlast]
    | none =>
      rw [Option.toList_none, List.nil_append]
      cases hwords : wordsTaken k u with
      | nil =>
        obtain ⟨hs, hq⟩ := carries_of_step s u hstep hw (hcarries hwords)
        rw [hwords, hq] at hlast
        exact ⟨hlast, fun _ => hs⟩
      | cons w ws =>
        rw [hwords] at hlast
        simpa [List.getLast?_cons] using hlast

/-- What it means that a run has ended well, read off its definition. -/
theorem endedWell_iff (s : State) (k : Nat) (words : List Cmd) :
    s.endedWell k words = true ↔
      wordsTaken k s = words ∧ words ≠ [] ∧ noneRejected k s = true ∧
      ∃ t, Host.Core.run Sys2Proof.core k s = .next t ∧ t.completed = true ∧ t.fault = false := by
  unfold State.endedWell
  cases Host.Core.run Sys2Proof.core k s <;> simp [and_assoc]

/-- Settles O57: without a rejection every word taken was accepted, and the last stands in CMD_Q at a completed end; an
illegal word among them would have been rejected. -/
theorem runEndsWellOnlyWithoutRejection : Obligations.RunEndsWellOnlyWithoutRejection := by
  unfold Obligations.RunEndsWellOnlyWithoutRejection
  intro s k
  have hgood (words : List Cmd) (h : s.endedWell k words = true) :
      wordsTaken k s = words ∧ (∀ w ∈ words, (commandOf w).wellFormed s.variant = true) ∧
      ∃ t, Host.Core.run Sys2Proof.core k s = .next t ∧ t.seq = .idle ∧ t.done = true ∧ t.fault = false ∧
        words.getLast? = some t.cmdQ := by
    obtain ⟨rfl, hne, hn, t, hrun, hc, hf⟩ := (endedWell_iff s k words).mp h
    obtain ⟨hidle, hdone⟩ := (completed_iff t).mp hc
    refine ⟨rfl, wordsTaken_legal k s t hrun hn, t, hrun, hidle, hdone, hf, ?_⟩
    rw [← (cmdQ_of_run k s t hrun hn hc).1, List.getLast?_eq_getLast_of_ne_nil hne]
    rfl
  refine ⟨hgood, fun w hw hillegal words => ?_⟩
  by_contra h
  obtain ⟨rfl, hlegal, -⟩ := hgood words (by simpa using h)
  simp [hlegal w hw] at hillegal

end Sys2Proof.Machine
end
